-- ==== Sys2Proof/Word.lean ====
section
/-!
DEFINITION. The words the part's manual treats as bits, and a fixed number of like things.
Conventions of 00_scope.md: a word is 16 bits, a serial is a 32-bit unsigned number.
-/

namespace Sys2Proof

/-- A link, journal or image word (00_scope.md, Conventions). -/
abbrev Word := BitVec 16

/-- A byte as it travels on a link (R154). -/
abbrev Byte := BitVec 8

/-- A serial: a 32-bit unsigned number (00_scope.md, Conventions). -/
abbrev Serial := BitVec 32

/-- The lot secret and a die key: 256 bits, sixteen words, the first word in the most significant
place (R91). -/
abbrev Key := BitVec 256

/-- The 352 array fuses of a die, fuse 0 in the most significant place, so that word 0 of an image
comes first and every word stands bit 15 first (R68). -/
abbrev Image := BitVec 352

/-- One of the four probe sites. -/
abbrev Site := Fin 4

/-- Four like things: one for each site, channel or watch entry. -/
structure Four (α : Type) where
  /-- number 0 -/
  s0 : α
  /-- number 1 -/
  s1 : α
  /-- number 2 -/
  s2 : α
  /-- number 3 -/
  s3 : α
deriving DecidableEq, Repr

/-- The thing numbered `k`. -/
def Four.get {α : Type} (f : Four α) (k : Site) : α :=
  match k with
  | 0 => f.s0
  | 1 => f.s1
  | 2 => f.s2
  | 3 => f.s3

/-- `f` with the thing numbered `k` replaced. -/
def Four.set {α : Type} (f : Four α) (k : Site) (x : α) : Four α :=
  match k with
  | 0 => { f with s0 := x }
  | 1 => { f with s1 := x }
  | 2 => { f with s2 := x }
  | 3 => { f with s3 := x }

/-- The same thing four times. -/
def Four.all {α : Type} (x : α) : Four α := ⟨x, x, x, x⟩

/-- Every one of the four changed by `g`. -/
def Four.map {α β : Type} (g : α → β) (f : Four α) : Four β := ⟨g f.s0, g f.s1, g f.s2, g f.s3⟩

/-- The four in order of their numbers. -/
def Four.toList {α : Type} (f : Four α) : List α := [f.s0, f.s1, f.s2, f.s3]

/-- The sites in order. -/
def allSites : List Site := [0, 1, 2, 3]

end Sys2Proof
end

