-- ==== Sys2Proof/Config.lean ====
section
/-!
DEFINITION. What the manual gives as fixed but does not compute, and the free values. A constant
without a body here can be proved to have no value: a claim about it holds for every value.
-/

namespace Sys2Proof.Config

/-- The part's fixed one-way derivation transform (R91): lot secret, lot tag, serial, column, row
give a key of 16 words, first word most significant. The manual gives its inputs, the size of its
output and its determinism, and no more (00_scope.md, Scope of this manual). DESIGN CHOICE: log 6. -/
opaque derivation (secret : Key) (lotTag : Word) (serial : Serial) (col row : Byte) : Key

/-- The value a journal word holds when its write was cut by a loss of supply, "a value that cannot
be known in advance" (R151); the argument is a counter of State. DESIGN CHOICE: log 7. -/
opaque freeWord : Nat → Word

/-- What the derivation unit would read as the lot secret if none were present at a derivation's
start. The manual excludes the case (R12, R98); the value is free. DESIGN CHOICE: log 8. -/
opaque absentSecret : Key

end Sys2Proof.Config
end

