-- ==== Sys2Proof/Syntax.lean ====
section
/-!
DEFINITION. The commands: one constructor of `Instr` for each row of spec/opcode_table.json, in the
table's order. The table gives no operands; those here are the ones the rule of the row names
(log 1).
-/

namespace Sys2Proof

/-- One of the five serial links (R154). -/
inductive Link where
  /-- a site link -/
  | site (k : Site)
  /-- the supervisor link -/
  | supervisor
deriving DecidableEq, Repr

/-- A die position as a position word carries it: column, row, each 0 to 255 (section 9.6). -/
structure Pos where
  /-- column -/
  col : Byte
  /-- row -/
  row : Byte
deriving DecidableEq, Repr

/-- The eight words SET PROFILE carries, in the order of R137. -/
structure ProfileWords where
  /-- first pulse width -/
  w0 : Word
  /-- largest pulse width -/
  wmax : Word
  /-- width growth, in eighths -/
  g : Word
  /-- pulses per fuse -/
  pmax : Word
  /-- read threshold -/
  tr : Word
  /-- program threshold -/
  tp : Word
  /-- settle, ticks of 10 µs -/
  settle : Word
  /-- qualify timeout, ms -/
  timeout : Word
deriving DecidableEq, Repr

/-- The five site requests with their bodies (section 9.6). -/
inductive SiteReq where
  | prepare (pos : Pos)
  | release (pos : Pos)
  | burn (pos : Pos)
  | abort
  | status
deriving DecidableEq, Repr

/-- The supervisor requests with their bodies (section 10.1). -/
inductive SupReq where
  | openLot (lotTag : Word) (first count : BitVec 32) (options : Word) (secret : Key)
  | resumeLot (lotTag : Word) (secret : Key)
  | closeLot
  | loadWafer (number cols rows : Word)
  | closeWafer
  | setProfile (p : ProfileWords)
  | setProfileDefault
  | calibrate (channel : Word)
  | enableSite (site : Word)
  | disableSite (site : Word)
  | resetSite (site : Word)
  | setWatch (entry kind action : Word) (value : BitVec 32)
  | clearWatch (entry : Word)
  | releaseHold (site : Word)
  | readRecords (first count : Word)
  | readChanged
  | readSummary
  | readStatus
  | readFaults
  | clearFaults
  | ackAlert (flags : Word)
  | setAlertMask (mask : Word)
deriving DecidableEq, Repr

/-- The commands of the part: the rows of spec/opcode_table.json. `tag` is the message tag a request
carries and its reply echoes (R154); `code` is the raw code of a measurement, 0 to 1023 (R128). -/
inductive Instr where
  /-- PREPARE (R46) -/
  | prepare (site : Site) (tag : Byte) (pos : Pos)
  /-- PREPARE_LOOKUP (R47) -/
  | prepareLookup (site : Site)
  /-- SERIAL_BINDING (R49) -/
  | serialBinding (site : Site)
  /-- SLOT_ACCESS (R50) -/
  | slotAccess (site : Site)
  /-- CLAIM_CLEARING (R52) -/
  | claimClearing (site : Site)
  /-- RELEASE (R54) -/
  | release (site : Site) (tag : Byte) (pos : Pos)
  /-- BURN (R102) -/
  | burn (site : Site) (tag : Byte) (pos : Pos)
  /-- ABORT (R160) -/
  | abort (site : Site) (tag : Byte)
  /-- STATUS (R161) -/
  | status (site : Site) (tag : Byte)
  /-- FRAME_ERROR (R156): a whole message that fails a check of R156 -/
  | frameError (link : Link) (message : List Word)
  /-- GAP_TIMEOUT (R155) -/
  | gapTimeout (link : Link)
  /-- REPLY_SENT (R157) -/
  | replySent (link : Link)
  /-- OPEN_LOT (R4) -/
  | openLot (tag : Byte) (lotTag : Word) (first count : BitVec 32) (options : Word) (secret : Key)
  /-- RESUME_LOT (R7) -/
  | resumeLot (tag : Byte) (lotTag : Word) (secret : Key)
  /-- CLOSE_LOT (R9) -/
  | closeLot (tag : Byte)
  /-- LOAD_WAFER (R14) -/
  | loadWafer (tag : Byte) (number cols rows : Word)
  /-- CLOSE_WAFER (R16) -/
  | closeWafer (tag : Byte)
  /-- SET_PROFILE (R137) -/
  | setProfile (tag : Byte) (p : ProfileWords)
  /-- SET_PROFILE_DEFAULT (R138) -/
  | setProfileDefault (tag : Byte)
  /-- CALIBRATE (R133) -/
  | calibrate (tag : Byte) (channel : Word)
  /-- ENABLE_SITE (R171) -/
  | enableSite (tag : Byte) (site : Word)
  /-- DISABLE_SITE (R172) -/
  | disableSite (tag : Byte) (site : Word)
  /-- RESET_SITE (R173) -/
  | resetSite (tag : Byte) (site : Word)
  /-- RESET_SITE_SWEEP (R65) -/
  | resetSiteSweep (site : Site)
  /-- SET_WATCH (R174) -/
  | setWatch (tag : Byte) (entry kind action : Word) (value : BitVec 32)
  /-- CLEAR_WATCH (R175) -/
  | clearWatch (tag : Byte) (entry : Word)
  /-- RELEASE_HOLD (R176) -/
  | releaseHold (tag : Byte) (site : Word)
  /-- READ_RECORDS (R61) -/
  | readRecords (tag : Byte) (first count : Word)
  /-- READ_CHANGED (R60) -/
  | readChanged (tag : Byte)
  /-- RECORD_COPY (R44) -/
  | recordCopy
  /-- READ_SUMMARY (R62) -/
  | readSummary (tag : Byte)
  /-- READ_STATUS (R180) -/
  | readStatus (tag : Byte)
  /-- READ_FAULTS (R184) -/
  | readFaults (tag : Byte)
  /-- CLEAR_FAULTS (R185) -/
  | clearFaults (tag : Byte)
  /-- ACK_ALERT (R179) -/
  | ackAlert (tag : Byte) (flags : Word)
  /-- SET_ALERT_MASK (R178) -/
  | setAlertMask (tag : Byte) (mask : Word)
  /-- DERIVATION_COMPLETE (R94) -/
  | derivationComplete
  /-- ADOPTION_ACCESS (R58) -/
  | adoptionAccess (site : Site)
  /-- ADOPTION_SERIAL_LOOKUP (R112) -/
  | adoptionSerialLookup (site : Site)
  /-- CONTACT_CLOSES (R108) -/
  | contactCloses (site : Site)
  /-- CONTACT_OPENS (R120) -/
  | contactOpens (site : Site)
  /-- QUALIFICATION_COMPLETE (R106) -/
  | qualificationComplete (site : Site)
  /-- QUALIFY_TIMEOUT (R107) -/
  | qualifyTimeout (site : Site)
  /-- BLANK_CHECK_MEASUREMENT (R109) -/
  | blankCheckMeasurement (site : Site) (code : BitVec 10)
  /-- PULSE_END (R114): a full-width pulse ends, and the supply monitor reads `inRegulation` (R123) -/
  | pulseEnd (site : Site) (inRegulation : Bool)
  /-- FUSE_MEASUREMENT_DONE (R114) -/
  | fuseMeasurementDone (site : Site) (code : BitVec 10)
  /-- VERIFY_MEASUREMENT (R116) -/
  | verifyMeasurement (site : Site) (code : BitVec 10)
  /-- BURN_ENDING_WRITE (R57) -/
  | burnEndingWrite (site : Site)
  /-- CALIBRATION_MEASUREMENT (R131) -/
  | calibrationMeasurement (site : Site) (code : BitVec 10)
  /-- JOURNAL_TRY_END (R146): the word reads back as `readBack` -/
  | journalTryEnd (readBack : Word)
  /-- JOURNAL_WRITE_FAIL (R147) -/
  | journalWriteFail
  /-- PWRWARN_ASSERT (R149) -/
  | pwrwarnAssert
  /-- PWRWARN_DEASSERT (R150) -/
  | pwrwarnDeassert
  /-- RESET_LINE (R151) -/
  | resetLine
  /-- POWER_ON_RESET (R3) -/
  | powerOnReset
  /-- SUPPLY_LOSS (R151) -/
  | supplyLoss
  /-- LOT_CLOCK_TICK (R18) -/
  | lotClockTick
  /-- BYTE_RECEIVED (R155) -/
  | byteReceived (link : Link) (byte : Byte)
deriving DecidableEq, Repr

end Sys2Proof
end

