-- ==== Sys2Proof/WellFormed.lean ====
section
/-!
DEFINITION. Which commands are well formed. The types of the operands carry every range but one: the
message of a FRAME_ERROR is a whole message, as the receiver hands it on (R154, R155).
-/

namespace Sys2Proof

/-- A run of words is a whole message: a kind and tag word, a body length word of 0 to 1024, that
many body words and a trailer (R154). -/
def wholeMessage (m : List Word) : Bool :=
  match m with
  | _ :: len :: rest => decide (len.toNat ≤ 1024) && decide (rest.length = len.toNat + 1)
  | _ => false

/-- The command could be handed to the part. -/
def Instr.wellFormed : Instr → Bool
  | .frameError _ m => wholeMessage m
  | _ => true

end Sys2Proof
end

