-- ==== Sys2Proof/Decode.lean ====
section
/-!
DEFINITION. Bits and words: the bit-field helpers, the check sum (R72 to R74), the framing of the
link messages (R154, R156, R79), the decoder of requests and their encoder (sections 9.6 and 10.1).
The rows of spec/opcode_table.json give no bits, so `decodeTableWord` reads no command from a word.
-/

namespace Sys2Proof

/-! ### Bit fields -/

/-- High word of a two-word number (00_scope.md, Serials: high word first). -/
def hiWord (x : BitVec 32) : Word := x.extractLsb' 16 16

/-- Low word of a two-word number. -/
def loWord (x : BitVec 32) : Word := x.extractLsb' 0 16

/-- A two-word number from its words, high word first. -/
def joinWords (h l : Word) : BitVec 32 := h ++ l

/-- High byte of a word. -/
def hiByte (w : Word) : Byte := w.extractLsb' 8 8

/-- Low byte of a word. -/
def loByte (w : Word) : Byte := w.extractLsb' 0 8

/-- A word from its bytes, high byte first (R154). -/
def joinBytes (h l : Byte) : Word := h ++ l

/-- The word of a number, which the manual bounds below 65536. -/
def wordOf (n : Nat) : Word := BitVec.ofNat 16 n

/-- A yes or no, as a word (R165). -/
def wordOfBool (b : Bool) : Word := if b then 1 else 0

/-- A number of two words, high word first (R168). -/
def twoWords (n : Nat) : List Word :=
  [hiWord (BitVec.ofNat 32 n), loWord (BitVec.ofNat 32 n)]

/-- The position word: column in bits 15 to 8, row in bits 7 to 0 (section 9.6). -/
def posWord (p : Pos) : Word := joinBytes p.col p.row

/-- The position a position word carries. -/
def wordPos (w : Word) : Pos := ⟨hiByte w, loByte w⟩

/-- The `n` words of a bit string, first word most significant. -/
def wordsOf (n : Nat) {m : Nat} (x : BitVec m) : List Word :=
  (List.range n).map fun i => x.extractLsb' (16 * (n - 1 - i)) 16

/-- A 256-bit value from its words, first word first (section 10.1). -/
def keyOfWords (ws : List Word) : Key :=
  ws.foldl (fun acc w => (acc <<< 16) ||| w.setWidth 256) 0

/-- The 16 words of a 256-bit value, first word first. -/
def keyWords (k : Key) : List Word := wordsOf 16 k

/-! ### The check sum -/

/-- R72 step 2: while T exceeds 65535 it is folded. `fuel` bounds the folds; the sum of `n` words
needs no more than `n`. -/
def foldCarry : Nat → Nat → Nat
  | 0, t => t
  | fuel + 1, t => if t > 65535 then foldCarry fuel (t % 65536 + t / 65536) else t

/-- The folded sum of a set of words (R72). -/
def foldedSum (ws : List Word) : Nat :=
  foldCarry ws.length (ws.map BitVec.toNat).sum

/-- The check word over a set of words: 65535 less the folded sum (R73). -/
def checkWord (ws : List Word) : Word := wordOf (65535 - foldedSum ws)

/-- A word set that ends with its check word is valid (R74). -/
def validWords (ws : List Word) : Bool := foldedSum ws == 65535

/-! ### Framing -/

/-- A message without its length word and trailer: kind, tag and body (R154). -/
structure Message where
  /-- kind -/
  kind : Byte
  /-- tag -/
  tag : Byte
  /-- body words -/
  body : List Word
deriving DecidableEq, Repr

/-- The words of a message before its trailer (R154). -/
def Message.head (m : Message) : List Word :=
  joinBytes m.kind m.tag :: wordOf m.body.length :: m.body

/-- All words of a message, trailer included (R79). -/
def Message.words (m : Message) : List Word := m.head ++ [checkWord m.head]

/-- The bytes of a run of words, each word high byte first (R154). -/
def bytesOf (ws : List Word) : List Byte := ws.flatMap fun w => [hiByte w, loByte w]

/-- The words of a run of bytes, high byte first; an odd last byte makes no word. -/
def wordsOfBytes : List Byte → List Word
  | h :: l :: rest => joinBytes h l :: wordsOfBytes rest
  | _ => []

/-! ### Kinds -/

/-- Kind code of a site request (section 9.6). -/
def SiteReq.kind : SiteReq → Byte
  | .prepare _ => 0x01
  | .release _ => 0x02
  | .burn _ => 0x03
  | .abort => 0x04
  | .status => 0x05

/-- Kind code of a supervisor request (section 10.1). -/
def SupReq.kind : SupReq → Byte
  | .openLot .. => 0x20
  | .resumeLot .. => 0x21
  | .closeLot => 0x22
  | .loadWafer .. => 0x23
  | .closeWafer => 0x24
  | .setProfile _ => 0x25
  | .setProfileDefault => 0x26
  | .calibrate _ => 0x27
  | .enableSite _ => 0x28
  | .disableSite _ => 0x29
  | .resetSite _ => 0x2A
  | .setWatch .. => 0x2B
  | .clearWatch _ => 0x2C
  | .releaseHold _ => 0x2D
  | .readRecords .. => 0x2E
  | .readChanged => 0x2F
  | .readSummary => 0x30
  | .readStatus => 0x31
  | .readFaults => 0x32
  | .clearFaults => 0x33
  | .ackAlert _ => 0x34
  | .setAlertMask _ => 0x35

/-- The one body length of each site kind; none for an unknown kind (section 9.6). -/
def siteBodyLength (kind : Byte) : Option Nat :=
  match kind.toNat with
  | 0x01 | 0x02 | 0x03 => some 1
  | 0x04 | 0x05 => some 0
  | _ => none

/-- The one body length of each supervisor kind; none for an unknown kind (section 10.1). -/
def supBodyLength (kind : Byte) : Option Nat :=
  match kind.toNat with
  | 0x20 => some 22
  | 0x21 => some 17
  | 0x22 => some 0
  | 0x23 => some 3
  | 0x24 => some 0
  | 0x25 => some 8
  | 0x26 => some 0
  | 0x27 | 0x28 | 0x29 | 0x2A => some 1
  | 0x2B => some 5
  | 0x2C | 0x2D => some 1
  | 0x2E => some 2
  | 0x2F | 0x30 | 0x31 | 0x32 | 0x33 => some 0
  | 0x34 | 0x35 => some 1
  | _ => none

/-- The body length of a kind on a link (R156 steps 2 and 3). -/
def bodyLength (link : Link) (kind : Byte) : Option Nat :=
  match link with
  | .site _ => siteBodyLength kind
  | .supervisor => supBodyLength kind

/-! ### Checking a whole message -/

/-- What R156 finds in a whole message: the echo of a FRAME ERROR, or the message itself. -/
inductive FrameCheck where
  /-- a check fails; the FRAME ERROR carries this kind and tag in its word 0 -/
  | bad (kind tag : Byte)
  /-- every check passes -/
  | good (m : Message)
deriving DecidableEq, Repr

/-- The checks of R156 on a whole message, in order: check sum, kind, body length. -/
def checkFrame (link : Link) (ws : List Word) : FrameCheck :=
  let w0 := ws.headD 0
  let body := (ws.drop 2).dropLast
  if !validWords ws then .bad 0 (loByte w0)
  else
    match bodyLength link (hiByte w0) with
    | none => .bad 0 (loByte w0)
    | some n => if body.length ≠ n then .bad (hiByte w0) (loByte w0) else .good ⟨hiByte w0, loByte w0, body⟩

/-! ### Requests -/

/-- The `i`th body word; a well-framed message has every word its kind asks for. -/
def Message.arg (m : Message) (i : Nat) : Word := m.body.getD i 0

/-- Two body words as one number, high word first (section 10.1). -/
def Message.arg2 (m : Message) (i : Nat) : BitVec 32 := joinWords (m.arg i) (m.arg (i + 1))

/-- The site request a well-framed message carries (section 9.6). -/
def decodeSite (m : Message) : Option SiteReq :=
  match m.kind.toNat with
  | 0x01 => some (.prepare (wordPos (m.arg 0)))
  | 0x02 => some (.release (wordPos (m.arg 0)))
  | 0x03 => some (.burn (wordPos (m.arg 0)))
  | 0x04 => some .abort
  | 0x05 => some .status
  | _ => none

/-- The supervisor request a well-framed message carries (section 10.1). -/
def decodeSup (m : Message) : Option SupReq :=
  match m.kind.toNat with
  | 0x20 => some (.openLot (m.arg 0) (m.arg2 1) (m.arg2 3) (m.arg 5) (keyOfWords ((m.body.drop 6).take 16)))
  | 0x21 => some (.resumeLot (m.arg 0) (keyOfWords ((m.body.drop 1).take 16)))
  | 0x22 => some .closeLot
  | 0x23 => some (.loadWafer (m.arg 0) (m.arg 1) (m.arg 2))
  | 0x24 => some .closeWafer
  | 0x25 => some (.setProfile ⟨m.arg 0, m.arg 1, m.arg 2, m.arg 3, m.arg 4, m.arg 5, m.arg 6, m.arg 7⟩)
  | 0x26 => some .setProfileDefault
  | 0x27 => some (.calibrate (m.arg 0))
  | 0x28 => some (.enableSite (m.arg 0))
  | 0x29 => some (.disableSite (m.arg 0))
  | 0x2A => some (.resetSite (m.arg 0))
  | 0x2B => some (.setWatch (m.arg 0) (m.arg 1) (m.arg 2) (m.arg2 3))
  | 0x2C => some (.clearWatch (m.arg 0))
  | 0x2D => some (.releaseHold (m.arg 0))
  | 0x2E => some (.readRecords (m.arg 0) (m.arg 1))
  | 0x2F => some .readChanged
  | 0x30 => some .readSummary
  | 0x31 => some .readStatus
  | 0x32 => some .readFaults
  | 0x33 => some .clearFaults
  | 0x34 => some (.ackAlert (m.arg 0))
  | 0x35 => some (.setAlertMask (m.arg 0))
  | _ => none

/-! ### The encoder -/

/-- Body words of a site request (section 9.6). -/
def SiteReq.body : SiteReq → List Word
  | .prepare p | .release p | .burn p => [posWord p]
  | .abort | .status => []

/-- Body words of a supervisor request (section 10.1). -/
def SupReq.body : SupReq → List Word
  | .openLot lotTag first count options secret =>
      [lotTag, hiWord first, loWord first, hiWord count, loWord count, options] ++ keyWords secret
  | .resumeLot lotTag secret => lotTag :: keyWords secret
  | .loadWafer n c r => [n, c, r]
  | .setProfile p => [p.w0, p.wmax, p.g, p.pmax, p.tr, p.tp, p.settle, p.timeout]
  | .calibrate c => [c]
  | .enableSite k => [k]
  | .disableSite k => [k]
  | .resetSite k => [k]
  | .setWatch e k a v => [e, k, a, hiWord v, loWord v]
  | .clearWatch e => [e]
  | .releaseHold k => [k]
  | .readRecords f c => [f, c]
  | .ackAlert f => [f]
  | .setAlertMask m => [m]
  | .closeLot | .closeWafer | .setProfileDefault | .readChanged | .readSummary | .readStatus
  | .readFaults | .clearFaults => []

/-- A site request as a message with a tag. -/
def SiteReq.message (r : SiteReq) (tag : Byte) : Message := ⟨r.kind, tag, r.body⟩

/-- A supervisor request as a message with a tag. -/
def SupReq.message (r : SupReq) (tag : Byte) : Message := ⟨r.kind, tag, r.body⟩

/-- The command a site request with a tag is, on site link `k`. -/
def SiteReq.instr (k : Site) (tag : Byte) : SiteReq → Instr
  | .prepare p => .prepare k tag p
  | .release p => .release k tag p
  | .burn p => .burn k tag p
  | .abort => .abort k tag
  | .status => .status k tag

/-- The command a supervisor request with a tag is. -/
def SupReq.instr (tag : Byte) : SupReq → Instr
  | .openLot l f c o s => .openLot tag l f c o s
  | .resumeLot l s => .resumeLot tag l s
  | .closeLot => .closeLot tag
  | .loadWafer n c r => .loadWafer tag n c r
  | .closeWafer => .closeWafer tag
  | .setProfile p => .setProfile tag p
  | .setProfileDefault => .setProfileDefault tag
  | .calibrate c => .calibrate tag c
  | .enableSite k => .enableSite tag k
  | .disableSite k => .disableSite tag k
  | .resetSite k => .resetSite tag k
  | .setWatch e k a v => .setWatch tag e k a v
  | .clearWatch e => .clearWatch tag e
  | .releaseHold k => .releaseHold tag k
  | .readRecords f c => .readRecords tag f c
  | .readChanged => .readChanged tag
  | .readSummary => .readSummary tag
  | .readStatus => .readStatus tag
  | .readFaults => .readFaults tag
  | .clearFaults => .clearFaults tag
  | .ackAlert f => .ackAlert tag f
  | .setAlertMask m => .setAlertMask tag m

/-! ### The opcode table -/

/-- The command that a word spells by the table's bits. No row of spec/opcode_table.json gives any
bits ("fields" is empty and there is no "fixed" in all 58 rows), so no word spells a command. -/
def decodeTableWord (_nbits _w : Nat) : Option Instr := none

end Sys2Proof
end

