-- ==== Sys2Proof/Machine/State.lean ====
section
/-!
DEFINITION. Everything the manual gives the part to hold, block by block, as plain data; the stops
of the model; and the part right after power-on reset as delivered (`State.reset`).
-/

namespace Sys2Proof.Machine

/-! ### Lot controller -/

/-- The volatile lot state (R1). -/
inductive LotState where
  | empty | opening | isOpen | suspended | resuming | closing | closed
deriving DecidableEq, Repr

/-- The wafer state (section 1.7). -/
inductive WaferState where
  | none | loading | active | closed
deriving DecidableEq, Repr

/-- The lot header mirror: journal words 1 to 8 (R2, R3). -/
structure LotHeader where
  /-- lot tag, word 1 -/
  lotTag : Word
  /-- first serial, words 2 and 3 -/
  first : BitVec 32
  /-- serial count, words 4 and 5 -/
  count : BitVec 32
  /-- options, word 6 -/
  options : Word
  /-- fingerprint, first key word, word 7 -/
  fp1 : Word
  /-- fingerprint, second key word, word 8 -/
  fp2 : Word
deriving DecidableEq, Repr

/-- Outcome of a calibration that ran to its end (R130). -/
inductive CalResult where
  | calibrated | limited | failed
deriving DecidableEq, Repr

/-- What a LOAD WAFER in progress knows of one channel (R15). -/
inductive CalReport where
  /-- the calibration has not ended -/
  | awaited
  /-- the calibration ended so -/
  | ran (r : CalResult)
  /-- NOT RUN, site disabled -/
  | notRunDisabled
  /-- NOT RUN, channel HALTED -/
  | notRunHalted
deriving DecidableEq, Repr

/-- A LOAD WAFER in progress (R14, R15). -/
structure LoadCtx where
  /-- the reload indication noted at acceptance -/
  reload : Bool
  /-- the write of word 10 has completed -/
  journalDone : Bool
  /-- the four channels -/
  cal : Four CalReport
deriving DecidableEq, Repr

/-- The lot controller LC (chapter 1). -/
structure LotController where
  /-- R1 -/
  lotState : LotState
  /-- the lot state before OPEN LOT was accepted (R6) -/
  before : LotState
  /-- R12 -/
  secret : Option Key
  /-- R1 note 1 -/
  header : LotHeader
  /-- journal word 10 as last read or written (R3, R14) -/
  lastWafer : Word
  /-- section 1.7 -/
  wafer : WaferState
  /-- 0 to 255 (R19) -/
  waferNumber : Nat
  /-- grid columns, 0 to 128 -/
  cols : Nat
  /-- grid rows, 0 to 128 -/
  rows : Nat
  /-- R18 -/
  clock : BitVec 32
  /-- LOAD WAFER in progress -/
  load : Option LoadCtx
  /-- serials unused in site blocks, counted at the acceptance of CLOSE LOT (R10 step 2) -/
  closeUnused : Nat
deriving DecidableEq, Repr

/-! ### Serial allocator -/

/-- A site's current block: the next serial and the end it stops before (R21). -/
structure Block where
  /-- next serial -/
  next : Nat
  /-- end, excluded -/
  stop : Nat
deriving DecidableEq, Repr

/-- A site's next block (R21). -/
inductive NextBlock where
  | absent
  | pending
  | ready (start stop : Nat)
deriving DecidableEq, Repr

/-- The blocks of one site (R21). -/
structure SiteBlocks where
  /-- absent, or a block -/
  current : Option Block
  /-- the block behind it -/
  next : NextBlock
deriving DecidableEq, Repr

/-- The serial allocator SA (R21). -/
structure Allocator where
  /-- mark mirror, 0 to 65535 -/
  mark : Nat
  /-- block advances placed and not yet completed or discarded -/
  outstanding : Nat
  /-- R28 -/
  exhausted : Bool
  /-- serials drawn under the lot since the last power-on reset (R35) -/
  drawn : Nat
  /-- blocks of the four sites -/
  blocks : Four SiteBlocks
deriving DecidableEq, Repr

/-! ### Die record table -/

/-- A staging slot's letter. -/
inductive SlotId where
  | a | b
deriving DecidableEq, Repr

/-- The nine record states (R43). -/
inductive RecState where
  | reserved | burning | interrupted | failed | verified | locked | retired | foreign | void
deriving DecidableEq, Repr

/-- The endings of a burn (R118). -/
inductive Ending where
  | verified | locked | adopted | foreignDie | fuseConflict | bitOpen | verifyLoss | lockOpen
  | contactLost | aborted | powerWarning | driverFault | partStopped | noContact
deriving DecidableEq, Repr

/-- A record's last outcome: a burn ending, or RESET (R42, R64). -/
inductive LastOutcome where
  | ended (e : Ending)
  | reset
deriving DecidableEq, Repr

/-- The holder of a record: a site, with its slot or with slot not yet taken (R40). -/
structure Holder where
  /-- the holding site -/
  site : Site
  /-- the slot; `none` is "slot not yet taken" -/
  slot : Option SlotId
deriving DecidableEq, Repr

/-- A die record (R38). Its index is its place in the table. -/
structure DieRecord where
  /-- column and row -/
  pos : Pos
  /-- absent until a draw is bound -/
  serial : Option Serial
  /-- R43 -/
  state : RecState
  /-- 0 to 3 (R41) -/
  attempts : Nat
  /-- R41 -/
  exhausted : Bool
  /-- site of the latest blank check -/
  lastSite : Option Site
  /-- R40 -/
  holder : Option Holder
  /-- 0 to 65535, saturating (R42) -/
  pulses : Nat
  /-- 0 to 353, saturating (R42) -/
  bits : Nat
  /-- absent before the first burn ending -/
  lastOutcome : Option LastOutcome
  /-- set by adoption -/
  recovered : Bool
  /-- lot clock at creation and at each state change -/
  stamp : BitVec 32
deriving DecidableEq, Repr

/-- The per-wafer counters (R62); the record count is the length of the record list. -/
structure Counters where
  reserved : Nat
  burning : Nat
  interrupted : Nat
  failed : Nat
  verified : Nat
  locked : Nat
  retired : Nat
  foreign : Nat
  void : Nat
  /-- records with the exhausted mark -/
  exhausted : Nat
  /-- records with the recovered flag -/
  recovered : Nat
  /-- serials skipped -/
  skipped : Nat
deriving DecidableEq, Repr

/-- The die record table DRT (chapter 3). -/
structure Table where
  /-- the records, in creation order -/
  records : List DieRecord
  /-- the position map: its filled entries as (entry number, record index), entry numbers rising;
  an entry that is not listed is empty (R37) -/
  posMap : List (Nat × Nat)
  /-- the change map: one mark a page of 64 records -/
  marks : Vector Bool 128
  /-- R62 -/
  counts : Counters
deriving DecidableEq, Repr

/-- The accesses that wait at the table's port and have a step of their own in the table of
commands (R44). -/
inductive Access where
  /-- PREPARE lookup -/
  | lookup
  /-- binding of a drawn serial -/
  | binding
  /-- taking of a slot -/
  | slotTaking
  /-- clearing of the claim on this record -/
  | clearing (idx : Nat)
  /-- burn ending write -/
  | ending
  /-- adoption access -/
  | adoption
  /-- serial lookup of adoption test 7 -/
  | serialLookup
deriving DecidableEq, Repr

/-- One access waiting at the port. -/
structure PortEntry where
  /-- which access -/
  access : Access
  /-- the site whose link controller or burn channel placed it -/
  site : Site
  /-- when it arrived, in idle ticks: equal moments arrived together (log 12) -/
  moment : Nat
deriving DecidableEq, Repr

/-! ### Derivation unit -/

/-- A derivation entry (R92). -/
inductive DEntry where
  /-- slot entry -/
  | slot (site : Site) (slot : SlotId) (serial : Serial) (pos : Pos) (lotTag : Word)
  /-- adoption entry -/
  | adopt (site : Site) (serial : Serial) (pos : Pos) (lotTag : Word)
  /-- fingerprint entry: serial 0, position (0, 0) -/
  | fingerprint (lotTag : Word)
deriving DecidableEq, Repr

/-- A derivation in progress: its entry, the secret it took at its start, and whether its result is
to be discarded (R91, R95). -/
structure Derivation where
  entry : DEntry
  secret : Key
  discard : Bool
deriving DecidableEq, Repr

/-- The derivation unit DU (section 5.4). -/
structure DerivUnit where
  /-- entries not yet started, oldest first -/
  queue : List DEntry
  /-- the derivation in progress -/
  current : Option Derivation
  /-- round-robin pointer -/
  pointer : Site
deriving DecidableEq, Repr

/-! ### Burn channels -/

/-- The eight profile fields (R136). -/
structure Profile where
  /-- width of the first pulse, units of 0.5 µs -/
  w0 : Nat
  /-- largest pulse width -/
  wmax : Nat
  /-- width growth in eighths -/
  g : Nat
  /-- pulses per fuse -/
  pmax : Nat
  /-- read threshold -/
  tr : Nat
  /-- program threshold -/
  tp : Nat
  /-- settle, ticks of 10 µs -/
  settle : Nat
  /-- qualify timeout, ms -/
  timeout : Nat
deriving DecidableEq, Repr

/-- A channel's snapshot of the supervisor profile, with the generation number (R139). -/
structure Snapshot where
  profile : Profile
  gen : Word
deriving DecidableEq, Repr

/-- The eleven channel states (R100). -/
inductive ChanState where
  | uncalibrated | calibrating | idle | waiting | qualifying | checking | adoptWait | programming
  | verifying | locking | halted
deriving DecidableEq, Repr

/-- The four slot states (R80). -/
inductive SlotState where
  | empty | deriving | staged | burning
deriving DecidableEq, Repr

/-- What a taken slot holds of its record (R80). -/
structure Taking where
  /-- record index -/
  idx : Nat
  /-- position -/
  pos : Pos
  /-- serial -/
  serial : Serial
deriving DecidableEq, Repr

/-- A staging slot (R80). -/
structure Slot where
  state : SlotState
  /-- present in DERIVING, STAGED and BURNING -/
  taking : Option Taking
  /-- present in STAGED and BURNING (R71) -/
  image : Option Image
  /-- discard pending -/
  discardPending : Bool
deriving DecidableEq, Repr

/-- The five blank-check classes (R76). -/
inductive DieClass where
  | blank | complete | otherIdentity | partialImage | conflict
deriving DecidableEq, Repr

/-- The fuse being pulsed (R101). -/
inductive Fuse where
  /-- array fuse 0 to 351 -/
  | array (n : Nat)
  /-- the array lock fuse -/
  | lock
deriving DecidableEq, Repr

/-- The readings of a calibration (R130, R131). -/
structure CalReadings where
  /-- the four raw codes -/
  codes : List (BitVec 10)
  /-- the average A -/
  average : Nat
  /-- the deviation d -/
  deviation : Int
deriving DecidableEq, Repr

/-- A calibration in progress: the codes taken so far and the kind of the request that started it
(R130, R131). -/
structure CalRun where
  codes : List (BitVec 10)
  kind : Byte
deriving DecidableEq, Repr

/-- An ending write that is placed at the port and not yet taken, with what it and the BURN's reply
need after the channel has discarded its read (R118, R119). -/
structure EndWrite where
  /-- the ending; ADOPTED stands for the adoption access, which decides between ADOPTED and FOREIGN
  DIE when it is taken (R113) -/
  ending : Ending
  /-- the burning slot's record, position and serial -/
  taking : Taking
  /-- the serial read from the fuses -/
  readSerial : Serial
  /-- the lock read L -/
  lockRead : Bool
deriving DecidableEq, Repr

/-- A burn channel BC with its two slots, burn context and calibration state (R80, R101, R130). -/
structure Channel where
  state : ChanState
  slotA : Slot
  slotB : Slot
  burning : Option SlotId
  snapshot : Option Snapshot
  qualCounter : Nat
  bounce : Nat
  /-- qualify timer, in ticks of 10 µs -/
  qualTimer : Nat
  /-- read image R -/
  readImage : Option Image
  /-- lock read L -/
  lockRead : Option Bool
  cls : Option DieClass
  curFuse : Option Fuse
  curWidth : Nat
  curPulses : Nat
  attPulses : Nat
  attBits : Nat
  /-- an ending fixed while a pulse or measurement runs out (R125) -/
  ending : Option Ending
  calDeferred : Bool
  /-- live contact flag: the comparator reads closed -/
  contact : Bool
  /-- latched contact-lost flag -/
  contactLost : Bool
  /-- the array read in progress (blank check or final verify) -/
  readSoFar : Image
  /-- measurements of that read taken so far -/
  measured : Nat
  /-- fuses of the remaining set not yet accepted (R77) -/
  remaining : Image
  /-- a pulse is being driven onto the current fuse (R114 step 2, log 37) -/
  driving : Bool
  /-- the pulse has ended and its measurement is in progress (R114 step 3) -/
  measuring : Bool
  /-- waiting for the serial lookup of adoption test 7 (R112) -/
  lookupWait : Bool
  /-- ending write placed and not yet taken -/
  endWrite : Option EndWrite
  /-- sense offset, −7 to +7 -/
  offset : Int
  degraded : Bool
  /-- last calibration result -/
  calResult : Option CalResult
  calReadings : Option CalReadings
  calRun : Option CalRun
deriving DecidableEq, Repr

/-! ### Profile store -/

/-- The profile store PS (R136). -/
structure ProfileStore where
  profile : Profile
  gen : Word
deriving DecidableEq, Repr

/-- The factory default profile, fixed (R136). -/
def defaultProfile : Profile :=
  { w0 := 16, wmax := 100, g := 12, pmax := 6, tr := 600, tp := 700, settle := 20, timeout := 50 }

/-! ### Journal store -/

/-- A journal queue entry (R143). -/
inductive JEntry where
  /-- header word 1 to 9 with its value -/
  | header (word : Nat) (value : Word)
  /-- word 0: OPEN for OPEN LOT, CLOSED for CLOSE LOT -/
  | lotState (value : Word)
  /-- word 10 -/
  | wafer (value : Word)
  /-- block advance for a site: word 9, its value fixed when the write begins -/
  | advance (site : Site)
  /-- ride-through increment: word 11, its value fixed when the write begins -/
  | rideThrough (amount : Nat)
deriving DecidableEq, Repr

/-- The phase of a try (R142). -/
inductive JPhase where
  | erase | program | readBack | finalErase
deriving DecidableEq, Repr

/-- The word write in progress (R142). -/
structure JWrite where
  entry : JEntry
  /-- the value, fixed when the write began -/
  value : Word
  /-- second try -/
  second : Bool
  phase : JPhase
  /-- idle ticks spent in the phase (log 3) -/
  elapsed : Nat
deriving DecidableEq, Repr

/-- The journal store JS (R141, R142). -/
structure Journal where
  /-- words 0 to 31, non-volatile -/
  words : Vector Word 32
  queue : List JEntry
  write : Option JWrite
  held : Bool
  warningSeen : Bool
  stopped : Bool
  rideMirror : Nat
deriving DecidableEq, Repr

/-! ### Watch table -/

/-- Kind and value of a watch entry (R174). -/
inductive WatchContent where
  | none
  | position (pos : Pos)
  | serial (s : Serial)
deriving DecidableEq, Repr

/-- A watch entry (R174). -/
structure WatchEntry where
  content : WatchContent
  /-- action HOLD; otherwise NOTE -/
  hold : Bool
  /-- hit count, 0 to 255 -/
  hits : Nat
deriving DecidableEq, Repr

/-! ### Fault unit -/

/-- The four alert flags or enables (R177, R178). -/
structure AlertFlags where
  fault : Bool
  watch : Bool
  exhausted : Bool
  power : Bool
deriving DecidableEq, Repr

/-- A fault record (R183). -/
structure FaultRecord where
  code : Nat
  site : Option Site
  pos : Option Pos
  /-- kind code of the request, 0 for none -/
  kind : Byte
  stamp : BitVec 32
deriving DecidableEq, Repr

/-- The fault unit FU (R183, R186, R189, R177, R178). -/
structure FaultUnit where
  /-- part state STOP; otherwise RUN -/
  partStopped : Bool
  latch : Bool
  first : Option FaultRecord
  last : Option FaultRecord
  count : Nat
  flags : AlertFlags
  mask : AlertFlags
  /-- reset cause RESET LINE; otherwise POWER ON -/
  resetLineCause : Bool
deriving DecidableEq, Repr

/-! ### Links -/

/-- Receive state of a link (R155). -/
inductive RxState where
  | await | collect | discard
deriving DecidableEq, Repr

/-- Receiver and transmitter of a link (R155, R157). -/
structure LinkIo where
  rx : RxState
  /-- partial-message buffer -/
  buf : List Byte
  /-- gap timer, ticks of 10 µs since the last byte -/
  gap : Nat
  /-- reply queue, oldest first -/
  replies : List Message
deriving DecidableEq, Repr

/-- Where a PREPARE on the command lane stands (R159). -/
inductive PrepPhase where
  /-- its lookup access waits at the port -/
  | lookup
  /-- it waits for the site's advance (R25) -/
  | waitBlock (idx : Nat)
  /-- a serial is drawn; the binding access waits at the port -/
  | binding (idx : Nat) (serial : Serial)
  /-- the serial is bound; the slot access waits at the port -/
  | slotTaking (idx : Nat)
  /-- held by a position watch (R86) -/
  | heldPosition
  /-- held by a serial watch (R87) -/
  | heldSerial (idx : Nat) (serial : Serial)
deriving DecidableEq, Repr

/-- The PREPARE on a command lane. -/
structure PrepReq where
  tag : Byte
  pos : Pos
  phase : PrepPhase
  /-- an ABORT or RESET SITE found it in its lookup access, and ends the wait for a draw that may follow (R160) -/
  aborted : Bool
deriving DecidableEq, Repr

/-- The BURN on a burn lane. -/
structure BurnReq where
  tag : Byte
  pos : Pos
  /-- it waits on a calibration and is not yet accepted (R103) -/
  waitsCal : Bool
deriving DecidableEq, Repr

/-- An ABORT whose DONE waits for the replies of what it ends (R160). -/
structure AbortWait where
  tag : Byte
  /-- the PREPARE is still in the lookup access in which it was found, and may come to wait for a draw -/
  waitsCmd : Bool
  /-- the BURN's reply is still to come -/
  waitsBurn : Bool
deriving DecidableEq, Repr

/-- A site link controller SLC (chapter 9). -/
structure SiteLink where
  io : LinkIo
  /-- ENABLED -/
  enabled : Bool
  cmd : Option PrepReq
  burn : Option BurnReq
  aborts : List AbortWait
deriving DecidableEq, Repr

/-- What an outstanding supervisor request still does (R169). -/
inductive SupTask where
  /-- OPEN LOT, RESUME LOT or CLOSE LOT in progress, or a request answered in its own step -/
  | plain
  /-- LOAD WAFER; its progress is the lot controller's -/
  | loadWafer
  /-- CALIBRATE of a channel -/
  | calibrate (k : Site)
  /-- RESET SITE: site requests it answers, and the channel state before it -/
  | resetSite (k : Site) (answered : Nat) (before : ChanState)
  /-- READ RECORDS: first index, records still to copy, words copied -/
  | readRecords (first left : Nat) (copied : List Word)
  /-- READ CHANGED: the page once its first access is taken, words copied -/
  | readChanged (page : Option Nat) (copied : List Word)
deriving DecidableEq, Repr

/-- The outstanding supervisor request. -/
structure SupReqState where
  kind : Byte
  tag : Byte
  task : SupTask
deriving DecidableEq, Repr

/-- The supervisor link controller SVLC (chapter 10). -/
structure SupLink where
  io : LinkIo
  lane : Option SupReqState
deriving DecidableEq, Repr

/-! ### The part -/

/-- The whole part. -/
structure State where
  /-- lot controller -/
  lc : LotController
  /-- serial allocator -/
  sa : Allocator
  /-- die record table -/
  drt : Table
  /-- accesses waiting at the table's port -/
  port : List PortEntry
  /-- derivation unit -/
  du : DerivUnit
  /-- burn channels -/
  chans : Four Channel
  /-- profile store -/
  ps : ProfileStore
  /-- journal store -/
  js : Journal
  /-- watch table -/
  wt : Four WatchEntry
  /-- fault unit -/
  fu : FaultUnit
  /-- site link controllers -/
  sites : Four SiteLink
  /-- supervisor link controller -/
  sup : SupLink
  /-- PWRWARN is asserted -/
  pwrwarn : Bool
  /-- the supply is present (log 9) -/
  powered : Bool
  /-- the RESET line is asserted and waits for the journal write in progress (R151) -/
  resetWaiting : Bool
  /-- idle ticks so far: the model's own (log 12) -/
  now : Nat
  /-- free values taken so far: the model's own (log 7) -/
  freeCount : Nat
  /-- the commands that wait, the next one first: the model's own -/
  pending : List Instr
deriving DecidableEq, Repr

/-! ### Stops -/

/-- Faults that stop the model: none. Every fault of the manual (R182) is a record of the fault unit,
and the part goes on (safe: nothing is shut out). -/
inductive Fault where
deriving DecidableEq, Repr

/-- Refusals. -/
inductive Refusal where
  /-- raised by an arm of `exec` whose command has no meaning yet; no arm is left so. Safe: the model
  stops where the part goes on -/
  | notModelled (mnemonic : String)
deriving DecidableEq, Repr

/-! ### Power-on reset as delivered -/

/-- A link after either reset (R163). -/
def LinkIo.reset : LinkIo := { rx := .await, buf := [], gap := 0, replies := [] }

/-- A site link after power-on reset (R163). -/
def SiteLink.reset : SiteLink :=
  { io := LinkIo.reset, enabled := true, cmd := none, burn := none, aborts := [] }

/-- An EMPTY slot (R99). -/
def Slot.reset : Slot := { state := .empty, taking := none, image := none, discardPending := false }

/-- A channel after power-on reset (R127, R135, R140). The fields no rule names are the model's
(log 30); the comparator is taken as open (log 10). -/
def Channel.reset : Channel :=
  { state := .uncalibrated, slotA := Slot.reset, slotB := Slot.reset, burning := none,
    snapshot := none, qualCounter := 0, bounce := 0, qualTimer := 0, readImage := none,
    lockRead := none, cls := none, curFuse := none, curWidth := 0, curPulses := 0, attPulses := 0,
    attBits := 0, ending := none, calDeferred := false, contact := false, contactLost := false,
    readSoFar := 0, measured := 0, remaining := 0, driving := false, measuring := false,
    lookupWait := false,
    endWrite := none, offset := 0, degraded := false, calResult := none, calReadings := none,
    calRun := none }

/-- The lot controller after power-on reset with a journal of zeros (R19, R2). -/
def LotController.reset : LotController :=
  { lotState := .empty, before := .empty, secret := none,
    header := { lotTag := 0, first := 0, count := 0, options := 0, fp1 := 0, fp2 := 0 },
    lastWafer := 0, wafer := .none, waferNumber := 0, cols := 0, rows := 0, clock := 0,
    load := none, closeUnused := 0 }

/-- The serial allocator after power-on reset with a journal of zeros (R33). -/
def Allocator.reset : Allocator :=
  { mark := 0, outstanding := 0, exhausted := false, drawn := 0,
    blocks := Four.all { current := none, next := .absent } }

/-- All counters 0 (R63). -/
def Counters.zero : Counters :=
  { reserved := 0, burning := 0, interrupted := 0, failed := 0, verified := 0, locked := 0,
    retired := 0, foreign := 0, void := 0, exhausted := 0, recovered := 0, skipped := 0 }

/-- The emptied table (R63). -/
def Table.emptied : Table :=
  { records := [], posMap := [], marks := Vector.replicate 128 false, counts := Counters.zero }

/-- The derivation unit after either reset (R99). -/
def DerivUnit.reset : DerivUnit := { queue := [], current := none, pointer := 0 }

/-- A watch entry after either reset (R181). -/
def WatchEntry.reset : WatchEntry := { content := .none, hold := false, hits := 0 }

/-- All four flags clear. -/
def AlertFlags.none : AlertFlags := { fault := false, watch := false, exhausted := false, power := false }

/-- All four enabled. -/
def AlertFlags.all : AlertFlags := { fault := true, watch := true, exhausted := true, power := true }

/-- The fault unit after power-on reset (R189, R181). -/
def FaultUnit.reset : FaultUnit :=
  { partStopped := false, latch := false, first := none, last := none, count := 0,
    flags := AlertFlags.none, mask := AlertFlags.all, resetLineCause := false }

/-- The journal at delivery (R141) after power-on reset (R152). -/
def Journal.reset : Journal :=
  { words := Vector.replicate 32 0, queue := [], write := none, held := false,
    warningSeen := false, stopped := false, rideMirror := 0 }

/-- The part right after power-on reset, its journal as delivered (R141, R152): the values the
chapters' reset tables give (R19, R33, R63, R99, R127, R135, R140, R152, R163, R181, R189). -/
def State.reset : State :=
  { lc := LotController.reset, sa := Allocator.reset, drt := Table.emptied, port := [],
    du := DerivUnit.reset, chans := Four.all Channel.reset,
    ps := { profile := defaultProfile, gen := 0 }, js := Journal.reset,
    wt := Four.all WatchEntry.reset, fu := FaultUnit.reset, sites := Four.all SiteLink.reset,
    sup := { io := LinkIo.reset, lane := none }, pwrwarn := false, powered := true,
    resetWaiting := false, now := 0, freeCount := 0, pending := [] }

end Sys2Proof.Machine
end

