-- ==== Sys2Proof/Machine/Ops.lean ====
section
/-!
DEFINITION. The named operations every block shares: replacing a field of State, sites and channels,
slots, the access port (R44), the reply queues (R157), the lanes' answers (R159, R160) and the die
record table's accesses (chapter 3).
-/

namespace Sys2Proof.Machine

/-! ### Replacing a part of the state -/

/-- `s` with its `lc` replaced. -/
def State.withLc (s : State) (x : LotController) : State := { s with lc := x }

/-- `s` with its `sa` replaced. -/
def State.withSa (s : State) (x : Allocator) : State := { s with sa := x }

/-- `s` with its `drt` replaced. -/
def State.withDrt (s : State) (x : Table) : State := { s with drt := x }

/-- `s` with its `port` replaced. -/
def State.withPort (s : State) (x : List PortEntry) : State := { s with port := x }

/-- `s` with its `du` replaced. -/
def State.withDu (s : State) (x : DerivUnit) : State := { s with du := x }

/-- `s` with its `chans` replaced. -/
def State.withChans (s : State) (x : Four Channel) : State := { s with chans := x }

/-- `s` with its `ps` replaced. -/
def State.withPs (s : State) (x : ProfileStore) : State := { s with ps := x }

/-- `s` with its `js` replaced. -/
def State.withJs (s : State) (x : Journal) : State := { s with js := x }

/-- `s` with its `wt` replaced. -/
def State.withWt (s : State) (x : Four WatchEntry) : State := { s with wt := x }

/-- `s` with its `fu` replaced. -/
def State.withFu (s : State) (x : FaultUnit) : State := { s with fu := x }

/-- `s` with its `sites` replaced. -/
def State.withSites (s : State) (x : Four SiteLink) : State := { s with sites := x }

/-- `s` with its `sup` replaced. -/
def State.withSup (s : State) (x : SupLink) : State := { s with sup := x }

/-- `s` with its `pwrwarn` replaced. -/
def State.withPwrwarn (s : State) (x : Bool) : State := { s with pwrwarn := x }

/-- `s` with its `powered` replaced. -/
def State.withPowered (s : State) (x : Bool) : State := { s with powered := x }

/-- `s` with its `resetWaiting` replaced. -/
def State.withResetWaiting (s : State) (x : Bool) : State := { s with resetWaiting := x }

/-- `s` with its `now` replaced. -/
def State.withNow (s : State) (x : Nat) : State := { s with now := x }

/-- `s` with its `freeCount` replaced. -/
def State.withFreeCount (s : State) (x : Nat) : State := { s with freeCount := x }

/-- `s` with its `pending` replaced. -/
def State.withPending (s : State) (x : List Instr) : State := { s with pending := x }

/-- The burn channel of site `k`. -/
def State.chan (s : State) (k : Site) : Channel := s.chans.get k

/-- The site link controller of site `k`. -/
def State.site (s : State) (k : Site) : SiteLink := s.sites.get k

/-- `s` with channel `k` changed by `f`. -/
def State.modChan (k : Site) (f : Channel → Channel) (s : State) : State :=
  s.withChans (s.chans.set k (f (s.chans.get k)))

/-- `s` with site link `k` changed by `f`. -/
def State.modSite (k : Site) (f : SiteLink → SiteLink) (s : State) : State :=
  s.withSites (s.sites.set k (f (s.sites.get k)))

/-- A command acts on a part that has its supply, and on an unpowered part has no effect (log 9). -/
def State.live (f : State → State) (s : State) : State := if s.powered then f s else s

/-! ### Slots -/

/-- The slot with letter `l`. -/
def Channel.slot (c : Channel) : SlotId → Slot
  | .a => c.slotA
  | .b => c.slotB

/-- `c` with the slot `l` replaced. -/
def Channel.setSlot (c : Channel) (l : SlotId) (x : Slot) : Channel :=
  match l with
  | .a => { c with slotA := x }
  | .b => { c with slotB := x }

/-- The slot becomes EMPTY and its image is discarded; discard pending is kept (R80, R71). -/
def Slot.emptied (x : Slot) : Slot := { x with state := .empty, taking := none, image := none }

/-- The slot a PREPARE takes: the EMPTY one, or A if both are EMPTY (R50, R81). -/
def Channel.freeSlot (c : Channel) : Option SlotId :=
  if c.slotA.state = .empty then some .a else if c.slotB.state = .empty then some .b else none

/-! ### The access port (R44) -/

/-- The access was placed by a burn channel; the others are a site link controller's. -/
def Access.byChannel : Access → Bool
  | .ending | .adoption | .serialLookup => true
  | .lookup | .binding | .slotTaking | .clearing _ => false

/-- Place an access of site `k` at the port. -/
def State.place (a : Access) (k : Site) (s : State) : State :=
  s.withPort (s.port ++ [{ access := a, site := k, moment := s.now }])

/-- The first waiting access of site `k` that `p` selects, with the accesses left, if it may be taken
now: no access that arrived at an earlier moment waits, and none of the same requester stands before
it. Accesses of different requesters that arrived together are taken in either order (R44). -/
def takeEntry (k : Site) (byChan : Bool) (p : Access → Bool) :
    List PortEntry → Option (PortEntry × List PortEntry)
  | [] => none
  | e :: rest =>
    if e.site = k ∧ e.access.byChannel = byChan then
      if p e.access then some (e, rest) else none
    else
      match takeEntry k byChan p rest with
      | some (x, rest') => if x.moment = e.moment then some (x, e :: rest') else none
      | none => none

/-- Take a waiting access of site `k` from the port: the access and the state without it. -/
def State.takeAccess (k : Site) (byChan : Bool) (p : Access → Bool) (s : State) : Option (Access × State) :=
  match takeEntry k byChan p s.port with
  | some (e, rest) => some (e.access, s.withPort rest)
  | none => none

/-- No site-side access waits that is older than this moment: the supervisor's own table access,
which arrives now, may be taken (R44). -/
def State.portCurrent (s : State) : Bool := s.port.all fun e => e.moment == s.now

/-! ### Reply queues (R157) -/

/-- Receiver and transmitter of a link. -/
def State.io (l : Link) (s : State) : LinkIo :=
  match l with
  | .site k => (s.sites.get k).io
  | .supervisor => s.sup.io

/-- `s` with receiver and transmitter of a link replaced. -/
def State.withIo (l : Link) (x : LinkIo) (s : State) : State :=
  match l with
  | .site k => s.modSite k fun sl => { sl with io := x }
  | .supervisor => s.withSup { s.sup with io := x }

/-- Place a reply on a transmitter's queue. -/
def LinkIo.push (m : Message) (io : LinkIo) : LinkIo := { io with replies := io.replies ++ [m] }

/-- Place a reply on a link's queue. -/
def State.reply (l : Link) (m : Message) (s : State) : State := s.withIo l ((s.io l).push m)

/-- Reply places of a site link in use: waiting replies, one reserved for each busy lane and one for
each waiting ABORT (R157). -/
def SiteLink.places (sl : SiteLink) : Nat :=
  sl.io.replies.length + sl.cmd.toList.length + sl.burn.toList.length + sl.aborts.length

/-- Reply places of a link in use (R157, R169). -/
def State.placesInUse (l : Link) (s : State) : Nat :=
  match l with
  | .site k => (s.sites.get k).places
  | .supervisor => s.sup.io.replies.length + s.sup.lane.toList.length

/-- All 8 reply places of a link are in use (R157). -/
def State.full (l : Link) (s : State) : Bool := decide (8 ≤ s.placesInUse l)

/-! ### Answers on the lanes (R159, R160) -/

/-- An ABORT that waits for nothing more. -/
def AbortWait.ready (a : AbortWait) : Bool := !a.waitsCmd && !a.waitsBurn

/-- Form the DONE of every ABORT whose requests have been answered, the earlier ABORT first (R160). -/
def SiteLink.settleAborts (sl : SiteLink) : SiteLink :=
  { sl with
    aborts := sl.aborts.dropWhile AbortWait.ready
    io := { sl.io with
      replies := sl.io.replies ++
        (sl.aborts.takeWhile AbortWait.ready).map fun a => { kind := 0x04, tag := a.tag, body := [0] } } }

/-- Answer the PREPARE on the command lane: the reply takes its place, the lane becomes FREE, and an
ABORT that waited for it may be answered (R159, R160). -/
def SiteLink.answerCmd (code : Word) (words : List Word) (sl : SiteLink) : SiteLink :=
  match sl.cmd with
  | none => sl
  | some p =>
    SiteLink.settleAborts
      { sl with
        cmd := none
        io := sl.io.push { kind := 0x01, tag := p.tag, body := code :: words }
        aborts := sl.aborts.map fun a => { a with waitsCmd := false } }

/-- Answer the BURN on the burn lane, as `answerCmd` does for the command lane. -/
def SiteLink.answerBurn (code : Word) (words : List Word) (sl : SiteLink) : SiteLink :=
  match sl.burn with
  | none => sl
  | some b =>
    SiteLink.settleAborts
      { sl with
        burn := none
        io := sl.io.push { kind := 0x03, tag := b.tag, body := code :: words }
        aborts := sl.aborts.map fun a => { a with waitsBurn := false } }

/-- Answer the outstanding supervisor request and free the supervisor lane (R169). -/
def SupLink.answer (code : Word) (words : List Word) (su : SupLink) : SupLink :=
  match su.lane with
  | none => su
  | some r => { lane := none, io := su.io.push { kind := r.kind, tag := r.tag, body := code :: words } }

/-- `SupLink.answer` in the state. -/
def State.supAnswer (code : Word) (words : List Word) (s : State) : State :=
  s.withSup (s.sup.answer code words)

/-- The outstanding supervisor request goes on with another task. -/
def State.supTask (t : SupTask) (s : State) : State :=
  s.withSup { s.sup with lane := s.sup.lane.map fun r => { r with task := t } }

/-! ### The die record table -/

/-- Number of a position's entry in the position map: row × 128 + column (R37). -/
def posEntry (p : Pos) : Nat := p.row.toNat * 128 + p.col.toNat

/-- Fill an entry of the position map, keeping the entry numbers rising. -/
def fillEntry (n i : Nat) : List (Nat × Nat) → List (Nat × Nat)
  | [] => [(n, i)]
  | (m, j) :: rest =>
    if n < m then (n, i) :: (m, j) :: rest
    else if n = m then (n, i) :: rest
    else (m, j) :: fillEntry n i rest

/-- What the position map holds for an entry: a record index, or nothing. -/
def mapEntry (n : Nat) (m : List (Nat × Nat)) : Option Nat := (m.find? fun e => e.1 == n).map Prod.snd

/-- The record index at a position (R37, R45). -/
def Table.lookup (d : Table) (p : Pos) : Option Nat := mapEntry (posEntry p) d.posMap

/-- The count of records in a state (R62). -/
def Counters.get (c : Counters) : RecState → Nat
  | .reserved => c.reserved
  | .burning => c.burning
  | .interrupted => c.interrupted
  | .failed => c.failed
  | .verified => c.verified
  | .locked => c.locked
  | .retired => c.retired
  | .foreign => c.foreign
  | .void => c.void

/-- `c` with the count of records in a state replaced. -/
def Counters.put (c : Counters) (st : RecState) (n : Nat) : Counters :=
  match st with
  | .reserved => { c with reserved := n }
  | .burning => { c with burning := n }
  | .interrupted => { c with interrupted := n }
  | .failed => { c with failed := n }
  | .verified => { c with verified := n }
  | .locked => { c with locked := n }
  | .retired => { c with retired := n }
  | .foreign => { c with foreign := n }
  | .void => { c with void := n }

/-- One more record in a state. -/
def Counters.raise (c : Counters) (st : RecState) : Counters := c.put st (c.get st + 1)

/-- One record fewer in a state. -/
def Counters.lower (c : Counters) (st : RecState) : Counters := c.put st (c.get st - 1)

/-- The counters after a record changed from `r` to `r'`: its state counts, the exhausted marks set and
the recovered flags set (R62). -/
def Counters.change (c : Counters) (r r' : DieRecord) : Counters :=
  let c1 := if r.state = r'.state then c else (c.lower r.state).raise r'.state
  { c1 with
    exhausted := if r'.exhausted && !r.exhausted then c1.exhausted + 1 else c1.exhausted
    recovered := if r'.recovered && !r.recovered then c1.recovered + 1 else c1.recovered }

/-- One access that changes the record at index `i` by `f`: the record, its page's mark and the
counters (R59, R62). -/
def Table.modify (i : Nat) (f : DieRecord → DieRecord) (d : Table) : Table :=
  match d.records[i]? with
  | none => d
  | some r =>
    { d with
      records := d.records.set i (f r)
      marks := d.marks.setIfInBounds (i / 64) true
      counts := d.counts.change r (f r) }

/-- As `modify`, for an access that deals with many records: a record `f` leaves as it was is not
changed and its page is not marked (R59). -/
def Table.convertAt (f : DieRecord → DieRecord) (d : Table) (i : Nat) : Table :=
  match d.records[i]? with
  | none => d
  | some r => if f r = r then d else d.modify i f

/-- Every record dealt with in place by `f`, in index order. -/
def Table.convert (f : DieRecord → DieRecord) (d : Table) : Table :=
  (List.range d.records.length).foldl (Table.convertAt f) d

/-- A record at its creation (R38), with its holder (R48). -/
def DieRecord.created (p : Pos) (h : Holder) (stamp : BitVec 32) : DieRecord :=
  { pos := p, serial := none, state := .reserved, attempts := 0, exhausted := false, lastSite := none,
    holder := some h, pulses := 0, bits := 0, lastOutcome := none, recovered := false, stamp := stamp }

/-- Creation of a record for a position by site `k` (R48, R37). -/
def Table.create (p : Pos) (k : Site) (stamp : BitVec 32) (d : Table) : Table :=
  { records := d.records ++ [DieRecord.created p { site := k, slot := none } stamp]
    posMap := fillEntry (posEntry p) d.records.length d.posMap
    marks := d.marks.setIfInBounds (d.records.length / 64) true
    counts := d.counts.raise .reserved }

/-- The most records the table holds (R37). -/
def Table.capacity : Nat := 8192

/-- One access that changes a record. -/
def State.modRecord (i : Nat) (f : DieRecord → DieRecord) (s : State) : State :=
  s.withDrt (s.drt.modify i f)

/-- The record at an index. -/
def State.recordAt (s : State) (i : Nat) : Option DieRecord := s.drt.records[i]?

/-- The record's holder becomes absent (R40). -/
def DieRecord.unheld (r : DieRecord) : DieRecord := { r with holder := none }

/-- The record becomes held by site `k`, slot not yet taken (R48, R51). -/
def DieRecord.claimed (k : Site) (r : DieRecord) : DieRecord :=
  { r with holder := some { site := k, slot := none } }

/-- Some other record than `i` holds the serial (R58). -/
def Table.serialHeld (d : Table) (i : Nat) (serial : Serial) : Bool :=
  d.records.zipIdx.any fun e => e.2 != i && e.1.serial == some serial

end Sys2Proof.Machine
end

