-- ==== Sys2Proof/Machine/Flags.lean ====
section
/-!
DEFINITION. The alert flags, the ALERT level and fault reports (R177, R178, R183), and the watch tests
that set the WATCH flag (R86, R87).
-/

namespace Sys2Proof.Machine

/-- The fault unit with its alert flags changed. -/
def State.modFlags (f : AlertFlags → AlertFlags) (s : State) : State :=
  s.withFu { s.fu with flags := f s.fu.flags }

/-- Set the FAULT flag (R177). -/
def AlertFlags.setFault (a : AlertFlags) : AlertFlags := { a with fault := true }

/-- Set the WATCH flag (R177). -/
def AlertFlags.setWatch (a : AlertFlags) : AlertFlags := { a with watch := true }

/-- Set the EXHAUSTED flag (R177). -/
def AlertFlags.setExhausted (a : AlertFlags) : AlertFlags := { a with exhausted := true }

/-- Set the POWER flag (R177). -/
def AlertFlags.setPower (a : AlertFlags) : AlertFlags := { a with power := true }

/-- Flags or enables as a word: bit 0 FAULT, bit 1 WATCH, bit 2 EXHAUSTED, bit 3 POWER (R178). -/
def AlertFlags.toWord (a : AlertFlags) : Word :=
  wordOf (a.fault.toNat + 2 * a.watch.toNat + 4 * a.exhausted.toNat + 8 * a.power.toNat)

/-- The four flags or enables of a word; bits 4 to 15 are not used (R178, R179). -/
def AlertFlags.ofWord (w : Word) : AlertFlags :=
  { fault := w.getLsbD 0, watch := w.getLsbD 1, exhausted := w.getLsbD 2, power := w.getLsbD 3 }

/-- The flags less those named (R179). -/
def AlertFlags.without (a n : AlertFlags) : AlertFlags :=
  { fault := a.fault && !n.fault, watch := a.watch && !n.watch,
    exhausted := a.exhausted && !n.exhausted, power := a.power && !n.power }

/-- The ALERT line: asserted while at least one flag is both set and enabled (R178). -/
def FaultUnit.alertLevel (u : FaultUnit) : Bool :=
  (u.flags.fault && u.mask.fault) || (u.flags.watch && u.mask.watch) ||
  (u.flags.exhausted && u.mask.exhausted) || (u.flags.power && u.mask.power)

/-- The fault unit after a fault is taken (R183). -/
def FaultUnit.take (r : FaultRecord) (u : FaultUnit) : FaultUnit :=
  { u with
    latch := true
    first := if u.latch then u.first else some r
    last := some r
    count := min 65535 (u.count + 1)
    flags := u.flags.setFault }

/-- Report a fault to the fault unit, stamped with the lot clock (R183, R18). -/
def State.report (code : Nat) (site : Option Site) (pos : Option Pos) (kind : Byte) (s : State) : State :=
  s.withFu (s.fu.take { code := code, site := site, pos := pos, kind := kind, stamp := s.lc.clock })

/-- A watch entry that records a hit: its count rises and stops at 255 (R86). -/
def WatchEntry.hit (e : WatchEntry) : WatchEntry := { e with hits := min 255 (e.hits + 1) }

/-- Every matching watch entry records a hit, and a hit sets the WATCH flag (R86, R87). -/
def State.watchHits (m : WatchContent → Bool) (s : State) : State :=
  let s1 := s.withWt (s.wt.map fun e => if m e.content then e.hit else e)
  if s.wt.toList.any fun e => m e.content then s1.modFlags AlertFlags.setWatch else s1

/-- Some matching watch entry has the action HOLD (R86, R87). -/
def State.watchHolds (m : WatchContent → Bool) (s : State) : Bool :=
  s.wt.toList.any fun e => m e.content && e.hold

/-- A POSITION entry matches the position (R86). -/
def WatchContent.atPos (p : Pos) : WatchContent → Bool
  | .position q => q == p
  | .none | .serial _ => false

/-- A SERIAL entry matches the serial (R87). -/
def WatchContent.atSerial (n : Serial) : WatchContent → Bool
  | .serial m => m == n
  | .none | .position _ => false

end Sys2Proof.Machine
end

