-- ==== Sys2Proof/Machine/Operands.lean ====
section
/-!
DEFINITION. Operands and field codes: reply codes (section 9.6), the codes of named fields (R164,
R165), the packed die record (R166), the checks on request arguments, the sense and pulse arithmetic
(R128, R131, R114, R137) and the fuse image with its classes (chapter 4).
-/

namespace Sys2Proof.Machine

/-! ### Reply codes (section 9.6) -/

/-- The reply codes that are not burn endings. -/
inductive Code where
  | done | accepted | clamped | deferred | busy | frameError | partStopped | siteDisabled
  | siteActive | sitesActive | lotNotOpen | noLot | lotActive | badLot | secretMismatch
  | journalBusy | lotExhausted | noWafer | waferActive | badWafer | badRange | outOfGrid | noSlot
  | slotsFull | tableFull | dieBusy | alreadyProvisioned | dieRefused | uncalibrated
  | channelHalted | powerWarning | aborted
deriving DecidableEq, Repr

/-- The word of a reply code. -/
def Code.word : Code → Word
  | .done => 0
  | .accepted => 1
  | .clamped => 2
  | .deferred => 3
  | .busy => 16
  | .frameError => 17
  | .partStopped => 18
  | .siteDisabled => 19
  | .siteActive => 20
  | .sitesActive => 21
  | .lotNotOpen => 32
  | .noLot => 33
  | .lotActive => 34
  | .badLot => 35
  | .secretMismatch => 36
  | .journalBusy => 37
  | .lotExhausted => 38
  | .noWafer => 40
  | .waferActive => 41
  | .badWafer => 42
  | .badRange => 43
  | .outOfGrid => 48
  | .noSlot => 49
  | .slotsFull => 50
  | .tableFull => 51
  | .dieBusy => 52
  | .alreadyProvisioned => 53
  | .dieRefused => 54
  | .uncalibrated => 64
  | .channelHalted => 65
  | .powerWarning => 66
  | .aborted => 89

/-- The word of a burn ending (section 9.6). -/
def Ending.word : Ending → Word
  | .verified => 80
  | .locked => 81
  | .adopted => 82
  | .foreignDie => 83
  | .fuseConflict => 84
  | .bitOpen => 85
  | .verifyLoss => 86
  | .lockOpen => 87
  | .contactLost => 88
  | .aborted => 89
  | .powerWarning => 66
  | .driverFault => 90
  | .partStopped => 18
  | .noContact => 91

/-- The record state a burn ending writes (R57); ADOPTED is decided at the adoption access (R58), and
NO CONTACT makes no write. -/
def Ending.recState (lockRead : Bool) : Ending → RecState
  | .verified => .verified
  | .locked => .locked
  | .adopted => if lockRead then .locked else .verified
  | .bitOpen | .verifyLoss | .lockOpen => .failed
  | .contactLost | .aborted | .powerWarning | .driverFault | .partStopped | .noContact => .interrupted
  | .fuseConflict => .retired
  | .foreignDie => .foreign

/-- The fault a burn ending reports (R118). -/
def Ending.fault : Ending → Option Nat
  | .fuseConflict => some 42
  | .bitOpen => some 41
  | .verifyLoss => some 43
  | .lockOpen => some 44
  | .contactLost => some 32
  | .powerWarning => some 61
  | .driverFault => some 51
  | .noContact => some 31
  | .verified | .locked | .adopted | .foreignDie | .aborted | .partStopped => none

/-! ### Codes of named fields (R164, R165) -/

/-- Record state (R164). -/
def RecState.code : RecState → Nat
  | .reserved => 0
  | .burning => 1
  | .interrupted => 2
  | .failed => 3
  | .verified => 4
  | .locked => 5
  | .retired => 6
  | .foreign => 7
  | .void => 8

/-- The record states in the order of their codes. -/
def allRecStates : List RecState :=
  [.reserved, .burning, .interrupted, .failed, .verified, .locked, .retired, .foreign, .void]

/-- Class, 255 for absent (R164). -/
def classCode : Option DieClass → Nat
  | some .blank => 0
  | some .complete => 1
  | some .otherIdentity => 2
  | some .partialImage => 3
  | some .conflict => 4
  | none => 255

/-- Lot state in READ STATUS (R165). -/
def LotState.code : LotState → Nat
  | .empty => 0
  | .opening => 1
  | .isOpen => 2
  | .suspended => 3
  | .resuming => 4
  | .closing => 5
  | .closed => 6

/-- Wafer state (R165). -/
def WaferState.code : WaferState → Nat
  | .none => 0
  | .loading => 1
  | .active => 2
  | .closed => 3

/-- Channel state (R165). -/
def ChanState.code : ChanState → Nat
  | .uncalibrated => 0
  | .calibrating => 1
  | .idle => 2
  | .waiting => 3
  | .qualifying => 4
  | .checking => 5
  | .adoptWait => 6
  | .programming => 7
  | .verifying => 8
  | .locking => 9
  | .halted => 10

/-- Slot state (R165). -/
def SlotState.code : SlotState → Nat
  | .empty => 0
  | .deriving => 1
  | .staged => 2
  | .burning => 3

/-- Slot letter (R165). -/
def SlotId.code : SlotId → Nat
  | .a => 0
  | .b => 1

/-- Burning slot, 255 for absent (R165). -/
def slotCode : Option SlotId → Nat
  | some l => l.code
  | none => 255

/-- Calibration result (R165). -/
def CalResult.code : CalResult → Nat
  | .calibrated => 1
  | .limited => 2
  | .failed => 3

/-- Last calibration result, 0 for none (R165). -/
def calCode : Option CalResult → Nat
  | some r => r.code
  | none => 0

/-- Calibration result in LOAD WAFER's reply (R165); an awaited one stands in no reply. -/
def CalReport.code : CalReport → Nat
  | .awaited => 0
  | .ran r => r.code
  | .notRunDisabled => 4
  | .notRunHalted => 5

/-- A sense offset or deviation: a 16-bit two's complement number (R165). -/
def signedWord (n : Int) : Word := BitVec.ofInt 16 n

/-- A serial that may be absent: two words, 0xFFFF when absent (R165). -/
def serialWords : Option Serial → List Word
  | some n => [hiWord n, loWord n]
  | none => [0xFFFF, 0xFFFF]

/-- A last outcome as a record holds it: 255 when absent, 92 for RESET (section 9.6). -/
def outcomeCode : Option LastOutcome → Nat
  | some (.ended e) => e.word.toNat
  | some .reset => 92
  | none => 255

/-- Holder slot: 0 A, 1 B, 2 slot not yet taken (R166). -/
def holderSlotCode : Option SlotId → Nat
  | some l => l.code
  | none => 2

/-- The die record in 8 words (R166). -/
def DieRecord.packed (r : DieRecord) : List Word :=
  let serial : Serial := r.serial.getD 0
  let bits := r.bits
  [ hiWord serial, loWord serial,
    wordOf (r.serial.isSome.toNat * 32768 + r.pos.col.toNat % 128 * 256 + r.recovered.toNat * 128 +
      r.pos.row.toNat % 128),
    wordOf (r.state.code * 4096 + r.attempts % 4 * 1024 + r.exhausted.toNat * 512 +
      r.lastSite.isSome.toNat * 256 + (r.lastSite.getD 0).val * 64 +
      r.holder.isSome.toNat * 32 + (r.holder.map (·.site.val)).getD 0 * 8 +
      (r.holder.map (holderSlotCode ·.slot)).getD 0 * 2 + bits / 256 % 2),
    wordOf r.pulses,
    wordOf (bits % 256 * 256 + outcomeCode r.lastOutcome),
    hiWord r.stamp, loWord r.stamp ]

/-! ### Arguments of requests -/

/-- A site or channel number, or a watch entry number: 0 to 3, otherwise none (R133, R171, R174). -/
def siteOf (w : Word) : Option Site := if h : w.toNat < 4 then some ⟨w.toNat, h⟩ else none

/-- The grid check: column and row within the grid (R45). -/
def LotController.inGrid (lc : LotController) (p : Pos) : Bool :=
  decide (p.col.toNat < lc.cols) && decide (p.row.toNat < lc.rows)

/-- The lot gate, the wafer gate and the grid check of site work, in that order (R1, R13, R45): the
refusal, or none. -/
def LotController.gate (lc : LotController) (p : Pos) : Option Code :=
  if lc.lotState ≠ .isOpen then some .lotNotOpen
  else if lc.wafer ≠ .active then some .noWafer
  else if !lc.inGrid p then some .outOfGrid
  else none

/-- The value a SET WATCH stores, none where R174 answers BAD RANGE (kind 1 POSITION, 2 SERIAL). -/
def watchContentOf (kind : Word) (value : BitVec 32) : Option WatchContent :=
  if kind = 1 then
    let p := wordPos (loWord value)
    if hiWord value = 0 ∧ p.col.toNat ≤ 127 ∧ p.row.toNat ≤ 127 then some (.position p) else none
  else if kind = 2 then some (.serial value)
  else none

/-- Kind code of a watch (R165). -/
def WatchContent.kindCode : WatchContent → Nat
  | .none => 0
  | .position _ => 1
  | .serial _ => 2

/-- A watch value as SET WATCH carries it, 0xFFFF twice for kind NONE (R168, CLEAR WATCH). -/
def WatchContent.valueWords : WatchContent → List Word
  | .none => [0xFFFF, 0xFFFF]
  | .position p => [0, posWord p]
  | .serial n => [hiWord n, loWord n]

/-! ### Sense arithmetic (chapter 7) -/

/-- The corrected code of a fuse measurement, held in 0 to 1023 (R128). -/
def correctedCode (code : BitVec 10) (offset : Int) : Nat :=
  (max 0 (min 1023 ((code.toNat : Int) + offset))).toNat

/-- Sum, average and deviation of four reference codes, and the result their size decides (R131). -/
def calAverage (codes : List (BitVec 10)) : Nat := ((codes.map BitVec.toNat).sum + 2) / 4

/-- The deviation d = 512 − A (R131). -/
def calDeviation (codes : List (BitVec 10)) : Int := 512 - (calAverage codes : Int)

/-- The result of a calibration by the size of its deviation (R131). -/
def calResultOf (d : Int) : CalResult :=
  if d.natAbs ≤ 7 then .calibrated else if d.natAbs ≤ 48 then .limited else .failed

/-- The channel's sense offset after a calibration (R131). -/
def calOffset (d old : Int) : Int :=
  match calResultOf d with
  | .calibrated => d
  | .limited => if 0 < d then 7 else -7
  | .failed => old

/-- The channel's degraded flag after a calibration (R131). -/
def calDegraded (d : Int) (old : Bool) : Bool :=
  match calResultOf d with
  | .calibrated => false
  | .limited => true
  | .failed => old

/-- The width of the next pulse after an unaccepted one: ceil(w × g / 8), clamped to Wmax (R114). -/
def nextWidth (p : Profile) (w : Nat) : Nat := min p.wmax ((w * p.g + 7) / 8)

/-- Bring a field into its range, to the nearer bound (R137). -/
def clampTo (lo hi n : Nat) : Nat := max lo (min hi n)

/-- The supervisor profile SET PROFILE stores: each field clamped, in the order of R137. -/
def clampProfile (p : ProfileWords) : Profile :=
  let w0 := clampTo 2 128 p.w0.toNat
  let tr := clampTo 256 960 p.tr.toNat
  { w0 := w0
    wmax := clampTo w0 128 p.wmax.toNat
    g := clampTo 8 16 p.g.toNat
    pmax := clampTo 1 8 p.pmax.toNat
    tr := tr
    tp := clampTo (tr + 32) 1000 p.tp.toNat
    settle := clampTo 1 255 p.settle.toNat
    timeout := clampTo 1 200 p.timeout.toNat }

/-- The fields of a profile in the order of R136. -/
def Profile.fields (p : Profile) : List Nat := [p.w0, p.wmax, p.g, p.pmax, p.tr, p.tp, p.settle, p.timeout]

/-- The fields SET PROFILE carries, in the order of R137. -/
def sentFields (p : ProfileWords) : List Nat :=
  [p.w0, p.wmax, p.g, p.pmax, p.tr, p.tp, p.settle, p.timeout].map BitVec.toNat

/-- The clamped fields, one bit a field from bit 0 for W0 (R168). -/
def clampedBits (sent stored : List Nat) : Nat :=
  ((sent.zip stored).zipIdx.map fun e => if e.1.1 ≠ e.1.2 then 2 ^ e.2 else 0).sum

/-! ### The fuse image (chapter 4) -/

/-- The 22 words of an image (R66). -/
def imageWords (i : Image) : List Word := wordsOf 22 i

/-- Word `w` of an image. -/
def imageWord (i : Image) (w : Nat) : Word := i.extractLsb' (16 * (21 - w)) 16

/-- Fuse `n` of an image: bit b of word w lies on fuse 16w + (15 − b) (R68). -/
def fuse (i : Image) (n : Nat) : Bool := i.getMsbD n

/-- The image with only fuse `n` programmed. -/
def fuseBit (n : Nat) : Image := if n < 352 then (1#352) <<< (351 - n) else 0

/-- Words 0 to 20 of an image (R66): serial, lot tag, position, options, key. -/
def imageBody (serial : Serial) (lotTag : Word) (p : Pos) (options : Word) (key : Key) : BitVec 336 :=
  serial ++ (lotTag ++ (posWord p ++ (options ++ key)))

/-- The assembled image: words 0 to 20 and the check word over them (R66, R73). -/
def assembleImage (serial : Serial) (lotTag : Word) (p : Pos) (options : Word) (key : Key) : Image :=
  let body := imageBody serial lotTag p options key
  body ++ checkWord (wordsOf 21 body)

/-- A read image passes the check sum (R74). -/
def imageValid (r : Image) : Bool := validWords (imageWords r)

/-- The read serial, from words 0 and 1 (R75). -/
def readSerialOf (r : Image) : Serial := r.extractLsb' 320 32

/-- The read lot tag, from word 2 (R75). -/
def readLotTag (r : Image) : Word := imageWord r 2

/-- The read position, from word 3 (R75). -/
def readPos (r : Image) : Pos := wordPos (imageWord r 3)

/-- The read key, words 5 to 20 (R75). -/
def readKey (r : Image) : Key := r.extractLsb' 16 256

/-- The lock option of an image: bit 15 of word 4 (R67, R167). -/
def lockOption (i : Image) : Bool := (imageWord i 4).getLsbD 15

/-- Every fuse reading 1 in `r` is a 1-bit of `i` (R76). -/
def onlyBitsOf (r i : Image) : Bool := r &&& ~~~i == 0

/-- The class of a die by the read image, the lock read and the staged image: the first test that
holds decides (R76). -/
def classify (r : Image) (l : Bool) (i : Image) : DieClass :=
  if r = 0 ∧ l = false then .blank
  else if r = i then .complete
  else if imageValid r ∨ l = true then .otherIdentity
  else if onlyBitsOf r i then .partialImage
  else .conflict

/-- The remaining set a class hands the channel (R77). -/
def remainingSet (c : DieClass) (r i : Image) : Image :=
  match c with
  | .blank => i
  | .partialImage => i &&& ~~~r
  | .complete | .otherIdentity | .conflict => 0

/-- The first fuse of a set in burn order: ascending fuse number (R70). -/
def firstFuse (i : Image) : Option Nat := (List.range 352).find? fun n => fuse i n

end Sys2Proof.Machine
end

