-- ==== Sys2Proof/Machine/JournalOps.lean ====
section
/-!
DEFINITION. Shared operations of the journal store (chapter 8) and of the serial allocator (chapter 2):
placing and beginning word writes, the window test, draws and block advances.
-/

namespace Sys2Proof.Machine

/-! ### Journal store -/

/-- Journal word `n`; the journal has words 0 to 31 (R141). -/
def Journal.word (j : Journal) (n : Nat) : Word := j.words[n]?.getD 0

/-- The journal with word `n` holding `v`. -/
def Journal.setWord (n : Nat) (v : Word) (j : Journal) : Journal :=
  { j with words := j.words.setIfInBounds n v }

/-- The word an entry writes (R143). -/
def JEntry.word : JEntry → Nat
  | .header w _ => w
  | .lotState _ => 0
  | .wafer _ => 10
  | .advance _ => 9
  | .rideThrough _ => 11

/-- The value of an entry, fixed at placing or when its write begins (R143): a block advance writes the
mark mirror plus one, a ride-through increment the mirror plus its amount, stopped at 65535. -/
def JEntry.value (mark rideMirror : Nat) : JEntry → Word
  | .header _ v => v
  | .lotState v => v
  | .wafer v => v
  | .advance _ => wordOf (mark + 1)
  | .rideThrough n => wordOf (min 65535 (rideMirror + n))

/-- The request kind a fault 71 of an entry carries (R147). -/
def JEntry.requestKind : JEntry → Byte
  | .header _ _ => 0x20
  | .lotState v => if v = 1 then 0x20 else 0x22
  | .wafer _ => 0x23
  | .advance _ => 0x01
  | .rideThrough _ => 0

/-- The site a fault 71 of an entry carries (R147). -/
def JEntry.site : JEntry → Option Site
  | .advance k => some k
  | .header .. | .lotState _ | .wafer _ | .rideThrough _ => none

/-- The entry is a block advance. -/
def JEntry.isAdvance : JEntry → Bool
  | .advance _ => true
  | .header .. | .lotState _ | .wafer _ | .rideThrough _ => false

/-- Begin the next word write if the conditions hold: the queue is not empty, no write is in progress,
held is no and stopped is no (R145). -/
def State.jsStart (s : State) : State :=
  match s.js.queue with
  | [] => s
  | e :: rest =>
    if s.js.write.isSome ∨ s.js.held ∨ s.js.stopped then s
    else
      s.withJs { s.js with
        queue := rest
        write := some { entry := e, value := e.value s.sa.mark s.js.rideMirror, second := false,
                        phase := .erase, elapsed := 0 } }

/-- Place entries at the tail of the queue, together, and test for the next write (R144, R145). -/
def State.jsPlace (es : List JEntry) (s : State) : State :=
  (s.withJs { s.js with queue := s.js.queue ++ es }).jsStart

/-- Some block advance is on the queue or is the word write in progress (R9). -/
def Journal.hasAdvance (j : Journal) : Bool :=
  j.queue.any JEntry.isAdvance || j.write.any fun w => w.entry.isAdvance

/-! ### Serial allocator -/

/-- The serial allocator with site `k`'s blocks replaced. -/
def Allocator.setBlocks (k : Site) (b : SiteBlocks) (a : Allocator) : Allocator :=
  { a with blocks := a.blocks.set k b }

/-- The window test: the pending mark is the mark mirror plus the outstanding advances, and an advance is
allowed when first + 16 × pending mark < first + count (R22). -/
def State.windowAllows (s : State) : Bool :=
  decide (s.lc.header.first.toNat + 16 * (s.sa.mark + s.sa.outstanding) <
    s.lc.header.first.toNat + s.lc.header.count.toNat)

/-- A refused advance sets the exhausted flag, and the EXHAUSTED alert flag if it was clear (R22, R28). -/
def State.setExhausted (s : State) : State :=
  let s1 := s.withSa { s.sa with exhausted := true }
  if s.sa.exhausted then s1 else s1.modFlags AlertFlags.setExhausted

/-- An allowed advance is placed for site `k`: its next block becomes PENDING and the outstanding
advances rise by one (R22). -/
def State.queueAdvance (k : Site) (s : State) : State :=
  (s.withSa { s.sa with
    outstanding := s.sa.outstanding + 1
    blocks := s.sa.blocks.set k { s.sa.blocks.get k with next := .pending } }).jsPlace [.advance k]

/-- The prefetch conditions (R26): four or fewer serials left in the current block, next block absent,
exhausted flag clear, PWRWARN not asserted. -/
def State.prefetchDue (k : Site) (s : State) : Bool :=
  let b := s.sa.blocks.get k
  (match b.current with
    | some c => decide (c.stop - c.next ≤ 4)
    | none => false) &&
  b.next == .absent && !s.sa.exhausted && !s.pwrwarn

/-- The prefetch test after a completed draw (R26). -/
def State.prefetch (k : Site) (s : State) : State :=
  if s.prefetchDue k then (if s.windowAllows then s.queueAdvance k else s.setExhausted) else s

/-- How the allocator answers a draw (R24). -/
inductive DrawResult where
  | drawn (serial : Serial)
  | waits
  | exhausted
deriving DecidableEq, Repr

/-- Take the next serial of a block that becomes, or is, the current one (R24), count it (R35) and test for
a prefetch (R26). -/
def State.takeSerial (k : Site) (b : Block) (next : NextBlock) (s : State) : State :=
  (s.withSa { s.sa with
    drawn := s.sa.drawn + 1
    blocks := s.sa.blocks.set k { current := some { b with next := b.next + 1 }, next := next } }).prefetch k

/-- A site's current block if it is present and not empty (R21). -/
def SiteBlocks.usable (b : SiteBlocks) : Option Block :=
  match b.current with
  | some c => if c.next < c.stop then some c else none
  | none => none

/-- A draw for site `k` (R24). -/
def State.draw (k : Site) (s : State) : State × DrawResult :=
  let b := s.sa.blocks.get k
  match b.usable with
  | some c => (s.takeSerial k c b.next, .drawn (BitVec.ofNat 32 c.next))
  | none =>
    match b.next with
    | .ready start stop =>
      (s.takeSerial k { next := start, stop := stop } .absent, .drawn (BitVec.ofNat 32 start))
    | .pending => (s, .waits)
    | .absent =>
      if s.sa.exhausted then (s, .exhausted)
      else if s.windowAllows then (s.queueAdvance k, .waits)
      else (s.setExhausted, .exhausted)

/-- The block with index `b` (R20, R23 step 3). -/
def blockOf (h : LotHeader) (b : Nat) : Block :=
  { next := h.first.toNat + 16 * b
    stop := min (h.first.toNat + 16 * (b + 1)) (h.first.toNat + h.count.toNat) }

/-- A completed advance with block index `b`: the mirror, the outstanding count and the block at its site
(R23 steps 1 to 4). -/
def State.placeBlock (k : Site) (b : Nat) (s : State) : State :=
  let old := s.sa.blocks.get k
  let blk := blockOf s.lc.header b
  let new : SiteBlocks :=
    match old.usable with
    | none => { current := some blk, next := .absent }
    | some _ => { old with next := .ready blk.next blk.stop }
  s.withSa { s.sa with
    mark := b + 1
    outstanding := s.sa.outstanding - 1
    blocks := s.sa.blocks.set k new }

/-- Serials left in a site's current block (R21, STATUS). -/
def SiteBlocks.left (b : SiteBlocks) : Nat :=
  match b.current with
  | some c => c.stop - c.next
  | none => 0

/-- Serials unused in a site's blocks, current and READY next (R34). -/
def SiteBlocks.unused (b : SiteBlocks) : Nat :=
  b.left + match b.next with
    | .ready start stop => stop - start
    | .absent | .pending => 0

/-- Committed serials: the smaller of 16 × mark and the serial count (R10, R20). -/
def State.committed (s : State) : Nat := min (16 * s.sa.mark) s.lc.header.count.toNat

/-- A serial lies in the committed range [first, first + min(16M, count)) (R20, R112). -/
def State.inCommitted (n : Serial) (s : State) : Bool :=
  decide (s.lc.header.first.toNat ≤ n.toNat) &&
  decide (n.toNat < s.lc.header.first.toNat + s.committed)

end Sys2Proof.Machine
end

