-- ==== Sys2Proof/Machine/DeriveOps.lean ====
section
/-!
DEFINITION. Shared operations of the derivation unit (section 5.4): placing, choosing and withdrawing
derivation entries, and releasing the staging slots they belong to (R84).
-/

namespace Sys2Proof.Machine

/-- The site of an entry; none for a fingerprint entry (R92). -/
def DEntry.site : DEntry → Option Site
  | .slot k .. => some k
  | .adopt k .. => some k
  | .fingerprint _ => none

/-- The entry is the slot entry of this slot. -/
def DEntry.isSlot (k : Site) (l : SlotId) : DEntry → Bool
  | .slot j m .. => j == k && m == l
  | .adopt .. | .fingerprint _ => false

/-- The entry is an adoption entry of this site. -/
def DEntry.isAdopt (k : Site) : DEntry → Bool
  | .adopt j .. => j == k
  | .slot .. | .fingerprint _ => false

/-- The entry is a fingerprint entry. -/
def DEntry.isFingerprint : DEntry → Bool
  | .fingerprint _ => true
  | .slot .. | .adopt .. => false

/-- The key a derivation gives (R91). -/
def Derivation.key (d : Derivation) : Key :=
  match d.entry with
  | .slot _ _ n p t => Config.derivation d.secret t n p.col p.row
  | .adopt _ n p t => Config.derivation d.secret t n p.col p.row
  | .fingerprint t => Config.derivation d.secret t 0 0 0

/-- The sites in the order the unit examines them (R93 step 1). -/
def sitesFrom (p : Site) : List Site := [p, p + 1, p + 2, p + 3]

/-- The oldest queued entry that `p` selects, with the entries left in their order. -/
def takeOldest (p : DEntry → Bool) : List DEntry → Option (DEntry × List DEntry)
  | [] => none
  | e :: rest =>
    if p e then some (e, rest)
    else
      match takeOldest p rest with
      | some (x, rest') => some (x, e :: rest')
      | none => none

/-- The next entry to start: the oldest of the first site from the pointer on that has one, else the
fingerprint entry (R93). -/
def chooseEntry (pointer : Site) (q : List DEntry) : Option (DEntry × List DEntry × Site) :=
  match (sitesFrom pointer).findSome? fun k =>
      (takeOldest (fun e => e.site == some k) q).map fun x => (x.1, x.2, k + 1) with
  | some x => some x
  | none => (takeOldest DEntry.isFingerprint q).map fun x => (x.1, x.2, pointer)

/-- Start the next derivation if none is in progress; its secret is read from the lot controller now
(R91, R93). -/
def State.duStart (s : State) : State :=
  match s.du.current with
  | some _ => s
  | none =>
    match chooseEntry s.du.pointer s.du.queue with
    | none => s
    | some (e, rest, ptr) =>
      s.withDu
        { queue := rest
          current := some { entry := e, secret := s.lc.secret.getD Config.absentSecret, discard := false }
          pointer := ptr }

/-- Place an entry on the derivation queue; it starts at once if the unit is idle (R92, R93). -/
def State.duPlace (e : DEntry) (s : State) : State :=
  (s.withDu { s.du with queue := s.du.queue ++ [e] }).duStart

/-- The derivation in progress is one that `p` selects and is not yet marked for discard. -/
def DerivUnit.runs (p : DEntry → Bool) (u : DerivUnit) : Bool :=
  match u.current with
  | some d => p d.entry && !d.discard
  | none => false

/-- The requester of the entries `p` selects stops waiting: queued ones are removed, one in progress is
marked for discard (R95). -/
def DerivUnit.withdraw (p : DEntry → Bool) (u : DerivUnit) : DerivUnit :=
  { u with
    queue := u.queue.filter fun e => !p e
    current := u.current.map fun d => if p d.entry then { d with discard := true } else d }

/-- `DerivUnit.withdraw` in the state. -/
def State.duWithdraw (p : DEntry → Bool) (s : State) : State := s.withDu (s.du.withdraw p)

/-- The slot becomes EMPTY, and its entry is withdrawn; a derivation of it that is in progress leaves
discard pending yes (R84, R95). -/
def State.emptySlot (k : Site) (l : SlotId) (s : State) : State :=
  let runs := s.du.runs (DEntry.isSlot k l)
  (s.duWithdraw (DEntry.isSlot k l)).modChan k fun c =>
    let x := (c.slot l).emptied
    c.setSlot l (if runs then { x with discardPending := true } else x)

/-- Release a slot: it becomes EMPTY and its record's holder is cleared with the page mark set (R84). A slot
that is EMPTY stays as it is. -/
def State.releaseSlot (k : Site) (l : SlotId) (s : State) : State :=
  match ((s.chan k).slot l).taking with
  | none => s
  | some t => (s.emptySlot k l).modRecord t.idx DieRecord.unheld

end Sys2Proof.Machine
end

