-- ==== Sys2Proof/Machine/BurnOps.lean ====
section
/-!
DEFINITION. Shared operations of the burn channels (chapters 6 and 7): taking a BURN, qualification,
beginning the blank check, programming, ending a burn, its interruptions, and beginning a calibration.
-/

namespace Sys2Proof.Machine

/-- The blank check has begun: an ending writes the record (R118). -/
def ChanState.past : ChanState → Bool
  | .checking | .adoptWait | .programming | .verifying | .locking => true
  | .uncalibrated | .calibrating | .idle | .waiting | .qualifying | .halted => false

/-- A burn is in progress: the states WAITING to LOCKING (R100). -/
def ChanState.inBurn : ChanState → Bool
  | .waiting | .qualifying | .checking | .adoptWait | .programming | .verifying | .locking => true
  | .uncalibrated | .calibrating | .idle | .halted => false

/-- Answer the BURN on site `k`'s burn lane. -/
def State.answerBurn (k : Site) (code : Word) (words : List Word) (s : State) : State :=
  s.modSite k (SiteLink.answerBurn code words)

/-- What the channel's burning slot holds. -/
def Channel.burningTaking (c : Channel) : Option (SlotId × Taking) :=
  match c.burning with
  | none => none
  | some l => (c.slot l).taking.map fun t => (l, t)

/-- The staged image of the burning slot. -/
def Channel.stagedImage (c : Channel) : Option Image :=
  match c.burning with
  | none => none
  | some l => (c.slot l).image

/-- The words after the code in the reply to an accepted BURN (R119, R164). -/
def Channel.replyWords (c : Channel) (t : Taking) (serial : Serial) (r : DieRecord) (st : RecState)
    (exhausted : Bool) (bounce : Nat) : List Word :=
  [ posWord t.pos, wordOf t.idx, hiWord serial, loWord serial, wordOf st.code,
    wordOf (classCode c.cls), wordOf c.attPulses, wordOf c.attBits,
    wordOf (r.attempts + 32768 * exhausted.toNat), wordOf bounce ]

/-! ### Calibration -/

/-- A channel enters CALIBRATING and begins a calibration for a request of this kind (R133). -/
def Channel.beginCal (kind : Byte) (c : Channel) : Channel :=
  { c with state := .calibrating, calRun := some { codes := [], kind := kind } }

/-! ### Taking a BURN -/

/-- The channel begins contact qualification on slot `l`: the slot becomes BURNING, the snapshot is taken and
the qualification counters start at 0 (R83, R104, R106, R139). -/
def State.startQualify (k : Site) (l : SlotId) (s : State) : State :=
  s.modChan k fun c =>
    { (c.setSlot l { c.slot l with state := .burning }) with
      state := .qualifying
      snapshot := some { profile := s.ps.profile, gen := s.ps.gen }
      qualCounter := 0
      bounce := 0
      qualTimer := 0 }

/-- Acceptance of a BURN for slot `l` (R104). -/
def State.acceptBurn (k : Site) (l : SlotId) (s : State) : State :=
  let s1 := s.modChan k fun c =>
    { c with contactLost := false, attPulses := 0, attBits := 0, cls := none, ending := none, burning := some l }
  if ((s.chan k).slot l).state = .staged then s1.startQualify k l
  else s1.modChan k fun c => { c with state := .waiting }

/-- The slot check of a BURN: the slot of this site that holds the position, STAGED or DERIVING (R102 step 5,
R45). -/
def State.burnSlot (k : Site) (p : Pos) (s : State) : Option SlotId :=
  match s.drt.lookup p with
  | none => none
  | some i =>
    match s.recordAt i with
    | none => none
    | some r =>
      match r.holder with
      | none => none
      | some h =>
        match h.slot with
        | none => none
        | some l =>
          if h.site = k ∧ (((s.chan k).slot l).state = .staged ∨ ((s.chan k).slot l).state = .deriving)
          then some l else none

/-- Steps 5 to 7 of R102 on the BURN that holds site `k`'s burn lane. A channel in a burn is met by no BURN,
since its lane is busy; the arm for it answers BUSY (log 36). -/
def State.burnAttempt (k : Site) (p : Pos) (s : State) : State :=
  match s.burnSlot k p with
  | none => s.answerBurn k Code.noSlot.word []
  | some l =>
    match (s.chan k).state with
    | .halted => s.answerBurn k Code.channelHalted.word []
    | .uncalibrated => s.answerBurn k Code.uncalibrated.word []
    | .calibrating => s.modSite k fun sl => { sl with burn := sl.burn.map fun b => { b with waitsCal := true } }
    | .idle => if s.pwrwarn then s.answerBurn k Code.powerWarning.word [] else s.acceptBurn k l
    | .waiting | .qualifying | .checking | .adoptWait | .programming | .verifying | .locking =>
      s.answerBurn k Code.busy.word []

/-- A BURN waiting on the channel's calibration is checked again at the calibration's end (R103). -/
def State.recheckBurn (k : Site) (s : State) : State :=
  match (s.site k).burn with
  | none => s
  | some b =>
    if b.waitsCal then
      (s.modSite k fun sl => { sl with burn := some { b with waitsCal := false } }).burnAttempt k b.pos
    else s

/-! ### Blank check, programming, lock -/

/-- The record at its blank-check start (R55). -/
def DieRecord.blankCheckStart (k : Site) (stamp : BitVec 32) (r : DieRecord) : DieRecord :=
  { r with attempts := r.attempts + 1, lastSite := some k, state := .burning, stamp := stamp }

/-- Qualification is complete: the channel enters CHECKING and its blank-check start access is taken (R109,
R55). -/
def State.beginBlankCheck (k : Site) (s : State) : State :=
  match (s.chan k).burningTaking with
  | none => s
  | some (_, t) =>
    (s.modChan k fun c =>
      { c with state := .checking, readSoFar := 0, measured := 0, readImage := none, lockRead := none,
               lookupWait := false }).modRecord t.idx (DieRecord.blankCheckStart k s.lc.clock)

/-- The channel takes up the pulse loop on a fuse, its first pulse of W0 not yet begun (R114 step 1, log 37). -/
def Channel.startFuse (f : Fuse) (p : Profile) (c : Channel) : Channel :=
  { c with curFuse := some f, curWidth := p.w0, curPulses := 0, driving := false, measuring := false }

/-- The channel goes on to the first fuse of the remaining set, or to VERIFYING when none is left (R114). -/
def Channel.nextFuse (p : Profile) (c : Channel) : Channel :=
  match firstFuse c.remaining with
  | some n => c.startFuse (.array n) p
  | none =>
    { c with
      state := .verifying, curFuse := none, driving := false, measuring := false, readSoFar := 0, measured := 0 }

/-- The channel enters PROGRAMMING with a remaining set (R110, R114). -/
def Channel.startProgramming (rem : Image) (p : Profile) (c : Channel) : Channel :=
  Channel.nextFuse p { c with state := .programming, remaining := rem }

/-- The channel enters LOCKING (R117). -/
def Channel.startLocking (p : Profile) (c : Channel) : Channel :=
  Channel.startFuse .lock p { c with state := .locking }

/-- A pulse of the current fuse has ended, whole or cut: the channel's counters (R114 step 2, R120). -/
def Channel.countPulse (c : Channel) : Channel :=
  { c with curPulses := c.curPulses + 1, attPulses := c.attPulses + 1 }

/-- A pulse end written to the record (R56, R42). -/
def DieRecord.pulseEnded (r : DieRecord) : DieRecord := { r with pulses := min 65535 (r.pulses + 1) }

/-- An acceptance written to the record (R56, R42). -/
def DieRecord.bitAccepted (r : DieRecord) : DieRecord := { r with bits := min 353 (r.bits + 1) }

/-- A pulse ends at channel `k`: it is counted and written to the burning slot's record. -/
def State.countPulse (k : Site) (s : State) : State :=
  match (s.chan k).burningTaking with
  | none => s
  | some (_, t) => (s.modChan k Channel.countPulse).modRecord t.idx DieRecord.pulseEnded

/-! ### Ending a burn (R118) -/

/-- The channel after its burn: R, L and a read cut off before its last measurement, the snapshot and the current
fuse with the remaining set are discarded, and the next state is taken (R75, R118 steps 3 and 4). -/
def Channel.afterBurn (e : Option Ending) (halt : Bool) (c : Channel) : Channel :=
  let c1 := { c with
    readImage := none, lockRead := none, readSoFar := 0, measured := 0, snapshot := none, curFuse := none,
    remaining := 0, burning := none, ending := e, lookupWait := false, driving := false, measuring := false,
    calDeferred := false }
  if halt then { c1 with state := .halted }
  else if c.calDeferred then c1.beginCal 0x03
  else { c1 with state := .idle }

/-- The burning slot after a burn that ended before its blank check: BURNING returns to STAGED, and the
DERIVING slot of a WAITING channel stays so (R83). -/
def Slot.unburned (x : Slot) : Slot := if x.state = .burning then { x with state := .staged } else x

/-- What the ending write needs of the channel's read (R118, R113). -/
def Channel.endingWrite (e : Ending) (t : Taking) (c : Channel) : EndWrite :=
  { ending := e, taking := t, readSerial := readSerialOf (c.readImage.getD 0), lockRead := c.lockRead.getD false }

/-- The faults of an ending: fault 51 where a supply fault halts a channel whose ending was fixed already
(R125), and the ending's own (R118 step 2). Where both are reported, 51 comes first; R125 gives no order (the model's
choice, log 40). -/
def State.reportEnding (k : Site) (e : Ending) (halt : Bool) (p : Pos) (s : State) : State :=
  let s1 := if halt ∧ e ≠ .driverFault then s.report 51 (some k) (some p) 0x03 else s
  match e.fault with
  | some n => s1.report n (some k) (some p) 0x03
  | none => s1

/-- The steps of R118 that follow the treatment of slot and record: faults, latched contact-lost flag, the
channel's next state. -/
def State.leaveBurn (k : Site) (e : Ending) (halt : Bool) (p : Pos) (s : State) : State :=
  (s.reportEnding k e halt p).modChan k fun c =>
    Channel.afterBurn (some e) halt (if e = .contactLost then { c with contactLost := true } else c)

/-- An ending after the blank check began: the slot becomes EMPTY, an adoption entry is withdrawn (R95) and
the ending write is placed at the port (R118 step 1). The serial lookup that a channel still waits for is no
longer asked (R112). -/
def State.endWritten (k : Site) (l : SlotId) (t : Taking) (e : Ending) (halt : Bool) (s : State) : State :=
  let w := (s.chan k).endingWrite e t
  let s1 := s.duWithdraw (DEntry.isAdopt k)
  let s2 := s1.withPort (s1.port.filter fun a => !(a.site == k && a.access == .serialLookup))
  let s3 := s2.modChan k fun c => { (c.setSlot l (c.slot l).emptied) with endWrite := some w }
  (s3.place (if e = .adopted then .adoption else .ending) k).leaveBurn k e halt t.pos

/-- An ending before the blank check: no write, the slot returns as R83 gives, and the BURN is answered (R118,
R119). -/
def State.endUnwritten (k : Site) (l : SlotId) (t : Taking) (e : Ending) (s : State) : State :=
  let c := s.chan k
  let words := match s.recordAt t.idx with
    | some r => c.replyWords t t.serial r .reserved false (if e = .noContact then c.bounce else 0)
    | none => []
  ((s.modChan k fun c => c.setSlot l (c.slot l).unburned).leaveBurn k e false t.pos).answerBurn k e.word words

/-- The burn of channel `k` ends with `e`; `halt` when a supply fault halts the channel (R118). -/
def State.finishBurn (k : Site) (e : Ending) (halt : Bool) (s : State) : State :=
  match (s.chan k).burningTaking with
  | none => s
  | some (l, t) => if (s.chan k).state.past then s.endWritten k l t e halt else s.endUnwritten k l t e

/-- Fix the ending while a pulse or measurement runs out; the first ending fixed stands (R125). -/
def State.fixEnding (k : Site) (e : Ending) (s : State) : State :=
  s.modChan k fun c => { c with ending := some (c.ending.getD e) }

/-- ABORT or part STOP, with its ending, acts on a burn in progress: between measurement and pulse it ends at once,
and a pulse that is driven or measured runs out (R121, R124, R105, R112). -/
def State.interruptBurn (k : Site) (e : Ending) (s : State) : State :=
  let c := s.chan k
  match c.state with
  | .waiting | .qualifying | .adoptWait => s.finishBurn k e false
  | .checking => if c.lookupWait then s.finishBurn k e false else s.fixEnding k e
  | .verifying => s.fixEnding k e
  | .programming | .locking => if c.driving || c.measuring then s.fixEnding k e else s.finishBurn k e false
  | .uncalibrated | .calibrating | .idle | .halted => s

/-- The assertion of PWRWARN acts on a burn in progress (R122). -/
def State.warnBurn (k : Site) (s : State) : State :=
  if (s.chan k).state.past then s.interruptBurn k .powerWarning else s

/-- The ending an event that meets a burn leaves it with: the one fixed already, or its own (R125). -/
def Channel.endingOr (c : Channel) (e : Ending) : Ending := c.ending.getD e

/-! ### The ending write -/

/-- The record after an ending write (R57). -/
def DieRecord.ended (e : Ending) (lockRead : Bool) (stamp : BitVec 32) (r : DieRecord) : DieRecord :=
  let st := e.recState lockRead
  { r with
    state := st
    lastOutcome := some (.ended e)
    holder := none
    stamp := stamp
    exhausted := r.exhausted || ((st == .failed || st == .interrupted) && r.attempts == 3) }

/-- The record after an adoption (R58). -/
def DieRecord.adoptedAs (serial : Serial) (lockRead : Bool) (stamp : BitVec 32) (r : DieRecord) : DieRecord :=
  { (r.ended .adopted lockRead stamp) with serial := some serial, recovered := true }

/-- The BURN's reply after its ending write was taken (R118 step 5, R119). -/
def State.answerEnded (k : Site) (w : EndWrite) (e : Ending) (serial : Serial) (r r' : DieRecord) (s : State) :
    State :=
  (s.modChan k fun c => { c with endWrite := none, ending := some e }).answerBurn k e.word
    ((s.chan k).replyWords w.taking serial r' r'.state (r'.exhausted && !r.exhausted) 0)

/-- The ending write of channel `k` is taken (R57). -/
def State.takeEnding (k : Site) (s : State) : State :=
  match (s.chan k).endWrite with
  | none => s
  | some w =>
    match s.recordAt w.taking.idx with
    | none => s
    | some r =>
      let f := DieRecord.ended w.ending w.lockRead s.lc.clock
      (s.modRecord w.taking.idx f).answerEnded k w w.ending w.taking.serial r (f r)

/-- One more serial skipped (R58, R62). -/
def State.skipSerial (s : State) : State :=
  s.withDrt { s.drt with counts := { s.drt.counts with skipped := s.drt.counts.skipped + 1 } }

/-- The adoption access of channel `k` is taken: the table repeats the serial test, and adopts the read serial
or makes the record FOREIGN (R58, R113). -/
def State.takeAdoption (k : Site) (s : State) : State :=
  match (s.chan k).endWrite with
  | none => s
  | some w =>
    match s.recordAt w.taking.idx with
    | none => s
    | some r =>
      if s.drt.serialHeld w.taking.idx w.readSerial then
        let f := DieRecord.ended .foreignDie w.lockRead s.lc.clock
        (s.modRecord w.taking.idx f).answerEnded k w .foreignDie w.taking.serial r (f r)
      else
        let f := DieRecord.adoptedAs w.readSerial w.lockRead s.lc.clock
        ((s.modRecord w.taking.idx f).skipSerial.watchHits (WatchContent.atSerial w.readSerial)).answerEnded
          k w .adopted w.readSerial r (f r)

/-! ### The serial lookup of adoption test 7 (R112) -/

/-- The answer of the serial lookup: held ends the burn FOREIGN DIE; not held places the adoption entry and the channel
enters ADOPT WAIT (R112, R96). -/
def State.lookupAnswered (k : Site) (r : Image) (t : Taking) (s : State) : State :=
  if s.drt.serialHeld t.idx (readSerialOf r) then s.finishBurn k .foreignDie false
  else
    (s.modChan k fun c => { c with state := .adoptWait, lookupWait := false }).duPlace
      (.adopt k (readSerialOf r) (readPos r) s.lc.header.lotTag)

/-- Channel `k`'s serial lookup is taken (R58, R112). -/
def State.answerLookup (k : Site) (s : State) : State :=
  match (s.chan k).readImage, (s.chan k).burningTaking with
  | some r, some (_, t) => s.lookupAnswered k r t
  | _, _ => s

end Sys2Proof.Machine
end

