-- ==== Sys2Proof/Machine/PrepareOps.lean ====
section
/-!
DEFINITION. Shared operations of a PREPARE (sections 3.4, 2.6, 5.1, 5.3): its three accesses, its waits
and its ends, the checks every site request meets (R157, R158), and the ending of a site's waiting work
that ABORT and RESET SITE share (R160, R173).
-/

namespace Sys2Proof.Machine

/-! ### The PREPARE on the command lane -/

/-- The PREPARE on site `k`'s command lane goes on to another phase. -/
def State.setPhase (k : Site) (ph : PrepPhase) (s : State) : State :=
  s.modSite k fun sl => { sl with cmd := sl.cmd.map fun p => { p with phase := ph } }

/-- Answer the PREPARE on site `k`'s command lane. -/
def State.answerPrepare (k : Site) (code : Word) (words : List Word) (s : State) : State :=
  s.modSite k (SiteLink.answerCmd code words)

/-- An ABORT or RESET SITE found the PREPARE in its lookup access (R160). -/
def State.prepareAborted (k : Site) (s : State) : Bool :=
  match (s.site k).cmd with
  | some p => p.aborted
  | none => false

/-- A PREPARE that claimed record `idx` ends before its slot was taken: it is answered, and one access is
to clear the claim (R49, R52). -/
def State.endClaimed (k : Site) (idx : Nat) (code : Code) (s : State) : State :=
  (s.answerPrepare k code.word []).place (.clearing idx) k

/-- A RESET SITE of site `k` has been accepted and its sweep is still to come (R173). -/
def State.sweepAwaited (k : Site) (s : State) : Bool :=
  match s.sup.lane.map SupReqState.task with
  | some (.resetSite j _ _) => j == k
  | some .plain | some .loadWafer | some (.calibrate _) | some (.readRecords ..) | some (.readChanged ..) | none => false

/-- A PREPARE that claimed record `idx` is answered ABORTED. An access of its own clears the claim (`clear`), or a sweep of
RESET SITE is to do so (R52, R65). -/
def State.endAborted (k : Site) (idx : Nat) (clear : Bool) (s : State) : State :=
  if clear then s.endClaimed k idx .aborted else s.answerPrepare k Code.aborted.word []

/-- Ask the serial allocator for a draw for the claimed record, or take up a draw that waited: it
completes, waits, or is answered LOT EXHAUSTED (R24, R25, R49). A draw that would wait under an ABORT
or a RESET SITE is ended ABORTED (R160, R173), its claim left to a sweep that is still to come (R65, log 33); one asked
while the part is stopped is answered PART STOPPED (R32, log 17). -/
def State.drawStep (k : Site) (idx : Nat) (s : State) : State :=
  if s.fu.partStopped then s.endClaimed k idx .partStopped
  else
    match s.draw k with
    | (s1, .drawn n) => (s1.setPhase k (.binding idx n)).place .binding k
    | (s1, .waits) =>
      if s.prepareAborted k then s1.endAborted k idx (!s1.sweepAwaited k) else s1.setPhase k (.waitBlock idx)
    | (s1, .exhausted) => s1.endClaimed k idx .lotExhausted

/-- The PREPARE goes on to its slot access (R50). -/
def State.toSlot (k : Site) (idx : Nat) (s : State) : State :=
  (s.setPhase k (.slotTaking idx)).place .slotTaking k

/-- At least one of site `k`'s slots is EMPTY (R47). -/
def State.slotFree (k : Site) (s : State) : Bool := (s.chan k).freeSlot.isSome

/-- The record taken up again by a PREPARE of site `k` (R51). -/
def DieRecord.takenUp (k : Site) (stamp : BitVec 32) (r : DieRecord) : DieRecord :=
  { r.claimed k with state := .reserved, stamp := stamp }

/-- The lookup access found record `idx`, RESERVED and without a holder (R47). -/
def State.claimReserved (k : Site) (idx : Nat) (r : DieRecord) (s : State) : State :=
  if s.slotFree k then
    let s1 := s.modRecord idx (DieRecord.claimed k)
    match r.serial with
    | none => s1.drawStep k idx
    | some _ => s1.toSlot k idx
  else s.answerPrepare k Code.slotsFull.word []

/-- Words after DIE BUSY: record index and holding site (R47 note 4, R164). -/
def busyWords (idx : Nat) (holder : Option Holder) : List Word :=
  [wordOf idx, match holder with
    | some h => wordOf h.site.val
    | none => 255]

/-- The PREPARE lookup access of site `k` for a position (R47). A VOID record is met by no PREPARE
(note 2); its arm answers DIE REFUSED (log 36). A record that the asking site holds with no slot taken yet is met by no
PREPARE either (note 1), but for one taken between a RESET SITE and its sweep; its arm answers DIE BUSY (the model's
choice, log 36). -/
def State.lookupAccess (k : Site) (p : Pos) (s : State) : State :=
  match s.drt.lookup p with
  | none =>
    if !s.slotFree k then s.answerPrepare k Code.slotsFull.word []
    else if s.drt.records.length < Table.capacity then
      (s.withDrt (s.drt.create p k s.lc.clock)).drawStep k s.drt.records.length
    else s.answerPrepare k Code.tableFull.word []
  | some idx =>
    match s.recordAt idx with
    | none => s
    | some r =>
      let refused := s.answerPrepare k Code.dieRefused.word [wordOf idx, wordOf r.state.code]
      match r.state with
      | .reserved =>
        match r.holder with
        | none => s.claimReserved k idx r
        | some h =>
          match h.slot with
          | some l =>
            if h.site = k then
              s.answerPrepare k Code.done.word
                ([wordOf idx] ++ serialWords r.serial ++ [wordOf l.code, wordOf r.attempts])
            else s.answerPrepare k Code.dieBusy.word (busyWords idx r.holder)
          | none => s.answerPrepare k Code.dieBusy.word (busyWords idx r.holder)
      | .burning => s.answerPrepare k Code.dieBusy.word (busyWords idx r.holder)
      | .interrupted | .failed =>
        if r.exhausted then refused
        else if s.slotFree k then
          (s.modRecord idx (DieRecord.takenUp k s.lc.clock)).toSlot k idx
        else s.answerPrepare k Code.slotsFull.word []
      | .verified | .locked =>
        s.answerPrepare k Code.alreadyProvisioned.word
          ([wordOf idx] ++ serialWords r.serial ++ [wordOf r.state.code])
      | .retired | .foreign | .void => refused

/-- The record with the drawn serial bound (R49). -/
def DieRecord.bound (n : Serial) (r : DieRecord) : DieRecord := { r with serial := some n }

/-- The binding access of site `k`'s PREPARE: the serial is bound, the serial watch test is made, and the
PREPARE is held or goes on (R49, R87). An ABORT or RESET SITE that found it in an access does not end
that hold (log 16). -/
def State.bindAccess (k : Site) (idx : Nat) (n : Serial) (s : State) : State :=
  let s1 := (s.modRecord idx (DieRecord.bound n)).watchHits (WatchContent.atSerial n)
  if s.watchHolds (WatchContent.atSerial n) then s1.setPhase k (.heldSerial idx n)
  else s1.toSlot k idx

/-- The slot taken for a record: DERIVING, with the record's index, position and serial; discard pending
is kept (R81). -/
def Slot.taken (t : Taking) (x : Slot) : Slot := { x with state := .deriving, taking := some t, image := none }

/-- The record's holder completed with the slot letter (R50). -/
def DieRecord.slotted (k : Site) (l : SlotId) (r : DieRecord) : DieRecord :=
  { r with holder := some { site := k, slot := some l } }

/-- The slot access of site `k`'s PREPARE for the claimed record `idx` (R50, R81). -/
def State.slotAccess (k : Site) (idx : Nat) (s : State) : State :=
  match (s.chan k).freeSlot, s.recordAt idx with
  | some l, some r =>
    match r.serial with
    | none => s
    | some n =>
      let t : Taking := { idx := idx, pos := r.pos, serial := n }
      ((((s.modChan k fun c => c.setSlot l ((c.slot l).taken t)).modRecord idx
        (DieRecord.slotted k l)).duPlace (.slot k l n r.pos s.lc.header.lotTag))).answerPrepare k
          Code.done.word [wordOf idx, hiWord n, loWord n, wordOf l.code, wordOf r.attempts]
  | _, _ => s

/-- The clearing of a claim by an ended PREPARE of site `k` (R52): the claim, if it still stands. -/
def State.clearClaim (k : Site) (idx : Nat) (s : State) : State :=
  match s.recordAt idx with
  | none => s
  | some r =>
    if r.holder = some { site := k, slot := none } then s.modRecord idx DieRecord.unheld else s

/-! ### The accesses that wait (R44) -/

/-- The PREPARE's lookup access has been taken. Where it goes on, nothing of it is to be ended any more: an ABORT that
waited for nothing else forms its DONE (R121, R160, log 44). -/
def SiteLink.lookupTaken (sl : SiteLink) : SiteLink :=
  match sl.cmd with
  | none => sl
  | some p =>
    if p.aborted then
      SiteLink.settleAborts
        { sl with
          cmd := some { p with aborted := false }
          aborts := sl.aborts.map fun a => { a with waitsCmd := false } }
    else sl

/-- The lookup access of site `k`'s PREPARE is taken (R47, R160). -/
def State.lookupTaken (k : Site) (p : Pos) (s : State) : State := (s.lookupAccess k p).modSite k SiteLink.lookupTaken

/-- The access `a` of site `k`'s PREPARE, by the phase that waits for it. -/
def State.prepareAccess (k : Site) (a : Access) (s : State) : State :=
  match (s.site k).cmd with
  | none => s
  | some q =>
    match q.phase, a with
    | .lookup, .lookup => s.lookupTaken k q.pos
    | .binding idx n, .binding => s.bindAccess k idx n
    | .slotTaking idx, .slotTaking => s.slotAccess k idx
    | _, _ => s

/-- A waiting access is taken, by what it is. -/
def State.takeWaiting (s : State) (e : PortEntry) : State :=
  match e.access with
  | .lookup | .binding | .slotTaking => s.prepareAccess e.site e.access
  | .clearing idx => s.clearClaim e.site idx
  | .ending => s.takeEnding e.site
  | .adoption => s.takeAdoption e.site
  | .serialLookup => s.answerLookup e.site

/-- The waiting accesses that `p` selects are taken, oldest first. Those that arrived together R44 takes in either order;
here, where they fall into one command's step, they are taken in the order in which they were placed (the model's choice,
logs 12 and 13). -/
def State.drain (p : PortEntry → Bool) (s : State) : State :=
  (s.port.filter p).foldl State.takeWaiting (s.withPort (s.port.filter fun e => !p e))

/-- The access comes before one of site `k`'s link controller or channel that arrives now: it has waited since an earlier
tick, or is the same requester's (R44). -/
def PortEntry.before (now : Nat) (k : Site) (byChan : Bool) (e : PortEntry) : Bool :=
  e.moment != now || (e.site == k && e.access.byChannel == byChan)

/-- The port is free for an access of site `k`'s link controller or channel that its own command takes: what comes before
it has been taken (R44, log 12). -/
def State.drainFor (k : Site) (byChan : Bool) (s : State) : State := s.drain (PortEntry.before s.now k byChan)

/-- Every access that waits has been taken, as before the supervisor's sweep or emptying (R44, R63, log 13). -/
def State.drainPort (s : State) : State := s.drain fun _ => true

/-- No site-side access waits any more, those that the taken ones placed included: a PREPARE takes at most three, one
after the other. So it is before a supervisor read (R44). -/
def State.drainAll (s : State) : State := s.drainPort.drainPort.drainPort

/-! ### Waiting draws (R25) -/

/-- A completed block advance of site `k` with block index `b`: its block is placed, and a draw that waits
is resumed (R23, R25). -/
def State.completeAdvance (k : Site) (b : Nat) (s : State) : State :=
  let s1 := s.placeBlock k b
  match (s.site k).cmd with
  | some p =>
    match p.phase with
    | .waitBlock idx => s1.drawStep k idx
    | .lookup | .binding .. | .slotTaking _ | .heldPosition | .heldSerial .. => s1
  | none => s1

/-! ### Site requests -/

/-- The reply of one code to a site request. -/
def State.siteReply (k : Site) (kind tag : Byte) (code : Code) (words : List Word) (s : State) : State :=
  s.reply (.site k) { kind := kind, tag := tag, body := code.word :: words }

/-- A whole, well-framed site request other than STATUS: overrun (R157), then part STOP, site enable and
lane (R158); a request that passes is acted on by `act`. -/
def State.siteRequest (k : Site) (kind tag : Byte) (laneBusy : Bool) (act : State → State) (s : State) :
    State :=
  if s.full (.site k) then s.report 11 (some k) none kind
  else if s.fu.partStopped then s.siteReply k kind tag .partStopped []
  else if !(s.site k).enabled then s.siteReply k kind tag .siteDisabled []
  else if laneBusy then s.siteReply k kind tag .busy []
  else act s

/-- A PREPARE taken on the command lane (R46): gates and grid check, position watch test, then its lookup
access is placed or it is held (R86). -/
def State.takePrepare (k : Site) (tag : Byte) (p : Pos) (s : State) : State :=
  match s.lc.gate p with
  | some c => s.siteReply k 0x01 tag c []
  | none =>
    let held := s.watchHolds (WatchContent.atPos p)
    let s1 := (s.watchHits (WatchContent.atPos p)).modSite k fun sl =>
      { sl with cmd := some { tag := tag, pos := p, phase := if held then .heldPosition else .lookup,
                              aborted := false } }
    if held then s1 else s1.place .lookup k

/-- The BURN of a channel WAITING for the slot that a RELEASE empties is answered NO SLOT, and the channel
leaves the burn (R85, log 35). -/
def State.dropWaiting (k : Site) (l : SlotId) (s : State) : State :=
  if (s.chan k).state = .waiting ∧ (s.chan k).burning = some l then
    (s.modChan k (Channel.afterBurn none false)).answerBurn k Code.noSlot.word []
  else s

/-- The slot of site `k` that holds record `idx`: the one the record's holder names, if it is taken for that record. A
slot emptied by an ending whose write still waits holds nothing, or another record (R54, R80). -/
def State.heldSlot (k : Site) (idx : Nat) (s : State) : Option SlotId :=
  match (s.recordAt idx).bind DieRecord.holder with
  | some { site := j, slot := some l } =>
    if j = k ∧ ((s.chan k).slot l).state ≠ .empty ∧ ((s.chan k).slot l).taking.map Taking.idx = some idx then some l
    else none
  | _ => none

/-- The access of a RELEASE that the gates let through, by the record and slot found (R54, R85). -/
def State.releaseAccess (k : Site) (tag : Byte) (p : Pos) (s : State) : State :=
  match s.drt.lookup p with
  | none => s.siteReply k 0x02 tag .noSlot []
  | some idx =>
    match s.heldSlot k idx with
    | none => s.siteReply k 0x02 tag .noSlot []
    | some l =>
      if ((s.chan k).slot l).state = .burning then s.siteReply k 0x02 tag .dieBusy [wordOf idx, wordOf k.val]
      else ((s.releaseSlot k l).siteReply k 0x02 tag .done []).dropWaiting k l

/-- A RELEASE taken (R54): its access follows the accesses that wait before it (R44, log 12). -/
def State.takeRelease (k : Site) (tag : Byte) (p : Pos) (s : State) : State :=
  match s.lc.gate p with
  | some c => s.siteReply k 0x02 tag c []
  | none => (s.drainFor k false).releaseAccess k tag p

/-- A BURN taken on the burn lane (R102 steps 2 to 7): gates and grid check, then the slot and channel
checks. -/
def State.takeBurn (k : Site) (tag : Byte) (p : Pos) (s : State) : State :=
  match s.lc.gate p with
  | some c => s.siteReply k 0x03 tag c []
  | none =>
    (s.modSite k fun sl => { sl with burn := some { tag := tag, pos := p, waitsCal := false } }).burnAttempt k p

/-! ### Ending a site's waiting work (R160, R173) -/

/-- ABORT or RESET SITE acts on the command lane of site `k` by what it holds (R160). A PREPARE in an access is let
through it; only from its lookup can it still come to wait for a draw, and it is marked there. A claim is cleared by an
access of its own for an ABORT (`clear`), and by the sweep for a RESET SITE (R52, R65, R90). -/
def State.endCmdLane (k : Site) (clear : Bool) (s : State) : State :=
  match (s.site k).cmd with
  | none => s
  | some p =>
    match p.phase with
    | .lookup => s.modSite k fun sl => { sl with cmd := some { p with aborted := true } }
    | .binding .. | .slotTaking _ => s
    | .heldPosition => s.answerPrepare k Code.aborted.word []
    | .waitBlock idx | .heldSerial idx _ =>
      s.endAborted k idx clear

/-- ABORT or RESET SITE acts on the burn lane of site `k` by what it holds (R160, R103, R105, R121). -/
def State.endBurnLane (k : Site) (s : State) : State :=
  match (s.site k).burn with
  | none => s
  | some b =>
    if b.waitsCal then s.answerBurn k Code.aborted.word [] else s.interruptBurn k .aborted

/-- Both lanes of site `k`. Where a PREPARE and a BURN both end at once, the command lane is answered first; R160 and
R173 give no other order than that of their endings' taking (the model's choice, log 41). -/
def State.endSiteWork (k : Site) (clear : Bool) (s : State) : State :=
  (s.endCmdLane k clear).endBurnLane k

/-- The PREPARE is in its lookup access, from which it may go on to wait for a draw (R48, R160). -/
def PrepReq.inLookup (p : PrepReq) : Bool :=
  match p.phase with
  | .lookup => true
  | .binding .. | .slotTaking _ | .waitBlock _ | .heldPosition | .heldSerial .. => false

/-- An ABORT taken by the link controller: it ends the site's waiting work, and its DONE follows the replies of what it
ends (R160). With no burn, a PREPARE in its binding or slot access leaves it nothing to end, and the DONE is formed at once
(R29, R121); one in its lookup may yet wait for a draw, which the ABORT then ends, and the DONE waits for that access (log
44). -/
def State.takeAbort (k : Site) (tag : Byte) (s : State) : State :=
  (s.endSiteWork k true).modSite k fun sl =>
    SiteLink.settleAborts
      { sl with aborts := sl.aborts ++
          [{ tag := tag, waitsCmd := sl.cmd.any PrepReq.inLookup, waitsBurn := sl.burn.isSome }] }

end Sys2Proof.Machine
end

