-- ==== Sys2Proof/Machine/LotOps.lean ====
section
/-!
DEFINITION. Shared operations of the supervisor lane (R169), of lots (sections 1.2 to 1.4), of loading a
wafer (R14, R15) and of the CLOSE WAFER sweep (R17).
-/

namespace Sys2Proof.Machine

/-! ### The supervisor lane -/

/-- The requests that are taken while the part is stopped: READ RECORDS, READ CHANGED, READ SUMMARY, READ
FAULTS, CLEAR FAULTS and ACK ALERT; READ STATUS passes the lane altogether (R169). -/
def takenInStop (kind : Byte) : Bool :=
  match kind.toNat with
  | 0x2E | 0x2F | 0x30 | 0x32 | 0x33 | 0x34 => true
  | _ => false

/-- A reply on the supervisor link to a request that is not on the lane. -/
def State.supReply (kind tag : Byte) (code : Code) (words : List Word) (s : State) : State :=
  s.reply .supervisor { kind := kind, tag := tag, body := code.word :: words }

/-- A whole, well-framed supervisor request other than READ STATUS: overrun (R157), part STOP, lane (R169); a
request that passes takes the lane and is acted on by `act`. -/
def State.supRequest (kind tag : Byte) (act : State → State) (s : State) : State :=
  if s.full .supervisor then s.report 11 none none kind
  else if s.fu.partStopped && !takenInStop kind then s.supReply kind tag .partStopped []
  else if s.sup.lane.isSome then s.supReply kind tag .busy []
  else act (s.withSup { s.sup with lane := some { kind := kind, tag := tag, task := .plain } })

/-! ### Lots -/

/-- The options word is one OPEN LOT takes: format revision 1, bits 14 to 12 and 7 to 4 clear (R4 step 5). -/
def optionsValid (w : Word) : Bool := w &&& 0x7FF0 == 0x0100

/-- The arguments of OPEN LOT pass steps 3 to 5 of R4. -/
def openLotValid (lotTag : Word) (first count : BitVec 32) (options : Word) : Bool :=
  lotTag != 0 && first != 0 && count != 0 && decide (count.toNat ≤ 1048560) &&
  decide (first.toNat + count.toNat - 1 ≤ 4294967295) && optionsValid options

/-- The lot controller's lot state replaced. -/
def State.setLot (st : LotState) (s : State) : State := s.withLc { s.lc with lotState := st }

/-- Steps 1 to 4 of R5. -/
def State.beginOpen (lotTag : Word) (first count : BitVec 32) (options : Word) (secret : Key) (s : State) :
    State :=
  (s.withLc { s.lc with
    secret := some secret
    header := { lotTag := lotTag, first := first, count := count, options := options, fp1 := 0, fp2 := 0 }
    before := s.lc.lotState
    lotState := .opening }).duPlace (.fingerprint lotTag)

/-- The lot resumes: its secret is stored and its fingerprint derivation placed (R7). -/
def State.beginResume (lotTag : Word) (secret : Key) (s : State) : State :=
  (s.withLc { s.lc with secret := some secret, lotState := .resuming }).duPlace (.fingerprint lotTag)

/-- Every site block absent. -/
def Allocator.cleared (a : Allocator) : Allocator :=
  { a with blocks := Four.all { current := none, next := .absent } }

/-- Steps 1 to 4 of R10. -/
def State.beginClose (s : State) : State :=
  ((s.withLc { s.lc with
    lotState := .closing
    closeUnused := (s.sa.blocks.toList.map SiteBlocks.unused).sum }).withSa s.sa.cleared).jsPlace [.lotState 2]

/-- The two fingerprint words: the first two words of a key (R5). -/
def fingerprintOf (k : Key) : Word × Word := (k.extractLsb' 240 16, k.extractLsb' 224 16)

/-- The ten word writes of OPEN LOT in their order (R5). -/
def headerWrites (h : LotHeader) : List JEntry :=
  [ .header 1 h.lotTag, .header 2 (hiWord h.first), .header 3 (loWord h.first), .header 4 (hiWord h.count),
    .header 5 (loWord h.count), .header 6 h.options, .header 7 h.fp1, .header 8 h.fp2, .header 9 0, .lotState 1 ]

/-- The fingerprint derivation's key is delivered (R5, R7, R94). -/
def State.deliverFingerprint (key : Key) (s : State) : State :=
  let fp := fingerprintOf key
  match s.lc.lotState with
  | .opening =>
    let h := { s.lc.header with fp1 := fp.1, fp2 := fp.2 }
    (s.withLc { s.lc with header := h }).jsPlace (headerWrites h)
  | .resuming =>
    if fp.1 = s.lc.header.fp1 ∧ fp.2 = s.lc.header.fp2 then (s.setLot .isOpen).supAnswer Code.done.word []
    else (s.withLc { s.lc with secret := none, lotState := .suspended }).supAnswer Code.secretMismatch.word []
  | .empty | .isOpen | .suspended | .closing | .closed => s

/-- The write of word 0 with OPEN completed (R5, R34). -/
def State.completeOpen (s : State) : State :=
  ((s.setLot .isOpen).withSa Allocator.reset).supAnswer Code.done.word
    [s.lc.header.lotTag, s.lc.header.fp1, s.lc.header.fp2]

/-- The close report (R10, R168). -/
def State.closeReport (s : State) : List Word :=
  [s.lc.header.lotTag] ++ twoWords s.committed ++ twoWords s.sa.drawn ++ twoWords s.lc.closeUnused ++
    [wordOf s.sa.mark]

/-- The write of word 0 with CLOSED completed (R10, R34). -/
def State.completeClose (s : State) : State :=
  ((s.withLc { s.lc with secret := none, lotState := .closed }).withSa
    { s.sa with exhausted := false }).supAnswer Code.done.word s.closeReport

/-! ### Loading a wafer -/

/-- The arguments of LOAD WAFER pass step 4 of R14. -/
def loadWaferValid (number cols rows : Word) : Bool :=
  number != 0 && decide (number.toNat ≤ 255) && cols != 0 && decide (cols.toNat ≤ 128) &&
  rows != 0 && decide (rows.toNat ≤ 128)

/-- What LOAD WAFER finds of a channel (R15 step 5, R133): a HALTED one is reported so whatever its site's enable state
(R188). LOAD WAFER meets no channel in a burn (R133). -/
def calReportOf (enabled : Bool) (st : ChanState) : CalReport :=
  if st = .halted then .notRunHalted
  else if !enabled then .notRunDisabled
  else .awaited

/-- A channel under an accepted LOAD WAFER: it begins a calibration from IDLE or UNCALIBRATED, and goes on
with one in progress (R133). -/
def Channel.loaded (enabled : Bool) (c : Channel) : Channel :=
  if enabled ∧ (c.state = .idle ∨ c.state = .uncalibrated) then c.beginCal 0x23 else c

/-- What LOAD WAFER finds of the four channels. -/
def State.loadReports (s : State) : Four CalReport :=
  { s0 := calReportOf (s.site 0).enabled (s.chan 0).state
    s1 := calReportOf (s.site 1).enabled (s.chan 1).state
    s2 := calReportOf (s.site 2).enabled (s.chan 2).state
    s3 := calReportOf (s.site 3).enabled (s.chan 3).state }

/-- The four channels under an accepted LOAD WAFER. -/
def State.loadChans (s : State) : Four Channel :=
  { s0 := (s.chan 0).loaded (s.site 0).enabled
    s1 := (s.chan 1).loaded (s.site 1).enabled
    s2 := (s.chan 2).loaded (s.site 2).enabled
    s3 := (s.chan 3).loaded (s.site 3).enabled }

/-- The steps of R15. -/
def State.beginLoad (number cols rows : Word) (s0 : State) : State :=
  let s := s0.drainPort
  ((((s.withLc { s.lc with
    wafer := .loading
    waferNumber := number.toNat
    cols := cols.toNat
    rows := rows.toNat
    load := some { reload := number == s.lc.lastWafer, journalDone := false, cal := s.loadReports } }).withDrt
      Table.emptied).withChans s.loadChans).supTask .loadWafer).jsPlace [.wafer number]

/-- Words of one channel in LOAD WAFER's reply: its result and its offset (R15, R168, log 25). -/
def loadWords (r : CalReport) (c : Channel) : List Word := [wordOf r.code, signedWord c.offset]

/-- Nothing is awaited any more (R15). -/
def LoadCtx.complete (l : LoadCtx) : Bool := l.journalDone && l.cal.toList.all fun r => r != .awaited

/-- When the last of the journal write and the calibrations has ended, the wafer becomes ACTIVE and LOAD WAFER
is answered (R15); a LOAD WAFER that a waiting RESET line will cut off is not (log 21). -/
def State.loadCheck (s : State) : State :=
  match s.lc.load with
  | none => s
  | some l =>
    if l.complete && !s.resetWaiting then
      (s.withLc { s.lc with wafer := .active, load := none }).supAnswer Code.done.word
        ([wordOf s.lc.waferNumber, wordOfBool l.reload] ++ loadWords l.cal.s0 s.chans.s0 ++
          loadWords l.cal.s1 s.chans.s1 ++ loadWords l.cal.s2 s.chans.s2 ++ loadWords l.cal.s3 s.chans.s3)
    else s

/-- The write of word 10 completed (R14, R15). -/
def State.completeWafer (value : Word) (s : State) : State :=
  (s.withLc { s.lc with
    lastWafer := value
    load := s.lc.load.map fun l => { l with journalDone := true } }).loadCheck

/-- The calibration of channel `k` ended under a LOAD WAFER that awaits it (R132). -/
def State.loadRan (k : Site) (r : CalResult) (s : State) : State :=
  (s.withLc { s.lc with
    load := s.lc.load.map fun l =>
      if l.cal.get k = .awaited then { l with cal := l.cal.set k (.ran r) } else l }).loadCheck

/-! ### Closing a wafer -/

/-- A site has work in flight (R16 step 4). -/
def State.inFlight (s : State) : Bool :=
  allSites.any fun k =>
    (s.chan k).state.inBurn || (s.site k).cmd.isSome || (s.site k).burn.any fun b => b.waitsCal

/-- A record dealt with by the sweep (R17 steps 1 to 4). -/
def DieRecord.swept (stamp : BitVec 32) (r : DieRecord) : DieRecord :=
  match r.state with
  | .reserved =>
    if r.pulses = 0 then { r with holder := none, state := .void, stamp := stamp }
    else { r with holder := none, state := .interrupted, exhausted := true, stamp := stamp }
  | .interrupted | .failed => { r with holder := none, exhausted := true }
  | .burning | .verified | .locked | .retired | .foreign | .void => { r with holder := none }

/-- Every slot of site `k` that is not EMPTY becomes EMPTY (R17 step 1). -/
def State.emptySlots (k : Site) (s : State) : State :=
  let s1 := if ((s.chan k).slot .a).state = .empty then s else s.emptySlot k .a
  if ((s1.chan k).slot .b).state = .empty then s1 else s1.emptySlot k .b

/-- The CLOSE WAFER sweep and its report, whose counts of records take two words each (R17, R168, log 43). -/
def State.sweepWafer (s0 : State) : State :=
  let s := allSites.foldl (fun s k => s.emptySlots k) s0.drainPort
  let d := s.drt.convert (DieRecord.swept s.lc.clock)
  ((s.withDrt d).withLc { s.lc with wafer := .closed }).supAnswer Code.done.word
    (twoWords (d.counts.void - s.drt.counts.void) ++ twoWords (d.counts.exhausted - s.drt.counts.exhausted) ++
      twoWords d.records.length)

end Sys2Proof.Machine
end

