-- ==== Sys2Proof/Machine/BurnEvents.lean ====
section
/-!
DEFINITION. What happens at the burn channels and in the derivation unit by itself (chapters 5 to 7):
contact, qualification, measurements, pulses, derivations and calibrations.
-/

namespace Sys2Proof.Machine

/-! ### Contact (R106, R108, R120) -/

/-- The comparator closes: the flag follows (R108). -/
def State.closeContact (k : Site) (s : State) : State := s.modChan k fun c => { c with contact := true }

/-- CONTACT_CLOSES (R108). The flag follows the comparator with or without a supply (log 9). -/
def execContactCloses (k : Site) (s : State) : Host.Outcome State Fault Refusal := .next (s.closeContact k)

/-- An opening in QUALIFYING (R106). -/
def Channel.bounced (c : Channel) : Channel := { c with qualCounter := 0, bounce := min 255 (c.bounce + 1) }

/-- What an opening does to the channel's burn (R106, R120, R125). -/
def State.contactLost (k : Site) (s : State) : State :=
  let c := s.chan k
  match c.state with
  | .qualifying => s.modChan k Channel.bounced
  | .programming | .locking =>
    if c.driving then (s.countPulse k).finishBurn k (c.endingOr .contactLost) false
    else s.finishBurn k (c.endingOr .contactLost) false
  | .checking | .adoptWait | .verifying => s.finishBurn k (c.endingOr .contactLost) false
  | .uncalibrated | .calibrating | .idle | .waiting | .halted => s

/-- The comparator opens: the flag follows, and a change from closed to open acts on the burn. -/
def State.openContact (k : Site) (s : State) : State :=
  let s1 := s.modChan k fun c => { c with contact := false }
  if (s.chan k).contact then s1.live (State.contactLost k) else s1

/-- CONTACT_OPENS (R120). -/
def execContactOpens (k : Site) (s : State) : Host.Outcome State Fault Refusal := .next (s.openContact k)

/-! ### Qualification (R106, R107) -/

/-- The blank check begins, its start access taken after the accesses that wait before it (R44, R109, log 12). -/
def State.startCheck (k : Site) (s : State) : State := (s.drainFor k true).beginBlankCheck k

/-- The qualify counter reaches settle; with PWRWARN asserted the blank check does not begin (R106). -/
def State.qualified (k : Site) (s : State) : State :=
  let c := s.chan k
  match c.state, c.snapshot with
  | .qualifying, some sn =>
    if c.contact then
      let s1 := s.modChan k fun c => { c with qualCounter := sn.profile.settle }
      if s.pwrwarn then s1 else s1.startCheck k
    else s
  | _, _ => s

/-- QUALIFICATION_COMPLETE (R106, R109). -/
def execQualificationComplete (k : Site) (s : State) : Host.Outcome State Fault Refusal :=
  .next (s.live (State.qualified k))

/-- The qualify timer reaches the timeout before the blank check (R107). -/
def State.qualifyExpired (k : Site) (s : State) : State :=
  if (s.chan k).state = .qualifying then s.finishBurn k .noContact false else s

/-- QUALIFY_TIMEOUT (R107). -/
def execQualifyTimeout (k : Site) (s : State) : Host.Outcome State Fault Refusal :=
  .next (s.live (State.qualifyExpired k))

/-! ### The blank check (R109 to R112) -/

/-- A fuse reads 1: its corrected code is at or above the read threshold (R129). -/
def Channel.readsOne (tr : Nat) (code : BitVec 10) (c : Channel) : Bool :=
  decide (tr ≤ correctedCode code c.offset)

/-- One array fuse measured in the read in progress (R109, R116). -/
def Channel.recordFuse (one : Bool) (c : Channel) : Channel :=
  { c with
    readSoFar := if one then c.readSoFar ||| fuseBit c.measured else c.readSoFar
    measured := c.measured + 1 }

/-- Tests 1 to 6 of R112 on a read image for the record the burning slot holds. -/
def State.adoptable (t : Taking) (r : Image) (s : State) : Bool :=
  imageValid r && readLotTag r == s.lc.header.lotTag && readPos r == t.pos &&
  s.inCommitted (readSerialOf r) && readSerialOf r != t.serial &&
  (match s.recordAt t.idx with
    | some rec => rec.attempts == 1 && rec.pulses == 0
    | none => false)

/-- The class OTHER IDENTITY: tests 1 to 6, then the serial lookup of test 7 is placed (R112). -/
def State.testAdoption (k : Site) (t : Taking) (r : Image) (s : State) : State :=
  if s.adoptable t r then (s.modChan k fun c => { c with lookupWait := true }).place .serialLookup k
  else s.finishBurn k .foreignDie false

/-- The last blank-check measurement: R and L are formed, the die is classified and the channel goes on (R109,
R110, R111). -/
def State.blankDecided (k : Site) (p : Profile) (l : Bool) (s : State) : State :=
  let c := s.chan k
  match c.burningTaking, c.stagedImage with
  | some (_, t), some i =>
    let r := c.readSoFar
    let cl := classify r l i
    let s1 := s.modChan k fun c => { c with readImage := some r, lockRead := some l, cls := some cl, measured := 353 }
    match cl with
    | .blank | .partialImage => s1.modChan k (Channel.startProgramming (remainingSet cl r i) p)
    | .complete =>
      if l then s1.finishBurn k .locked false
      else if lockOption i then s1.modChan k (Channel.startLocking p)
      else s1.finishBurn k .verified false
    | .otherIdentity => s1.testAdoption k t r
    | .conflict => s1.finishBurn k .fuseConflict false
  | _, _ => s

/-- One blank-check measurement; under an ending already fixed it is discarded and the burn ends (R109, R121). -/
def State.blankMeasured (k : Site) (code : BitVec 10) (s : State) : State :=
  let c := s.chan k
  match c.state, c.snapshot with
  | .checking, some sn =>
    if c.lookupWait then s
    else
      match c.ending with
      | some e => s.finishBurn k e false
      | none =>
        if c.measured < 352 then s.modChan k (Channel.recordFuse (c.readsOne sn.profile.tr code))
        else s.blankDecided k sn.profile (c.readsOne sn.profile.tr code)
  | _, _ => s

/-- BLANK_CHECK_MEASUREMENT (R109). -/
def execBlankCheckMeasurement (k : Site) (code : BitVec 10) (s : State) : Host.Outcome State Fault Refusal :=
  .next (s.live (State.blankMeasured k code))

/-! ### Pulses (R114, R117, R123) -/

/-- The channel is pulsing an array fuse or the lock fuse. -/
def Channel.pulsing (c : Channel) : Bool := c.state == .programming || c.state == .locking

/-- A full-width pulse ends (R114 step 2, R123, R125). One that no tick saw begin has begun since (log 37). -/
def State.pulseEnded (k : Site) (inRegulation : Bool) (s : State) : State :=
  let c := s.chan k
  if c.pulsing ∧ c.measuring = false then
    let s1 := s.countPulse k
    if inRegulation then s1.modChan k fun c => { c with driving := false, measuring := true }
    else s1.finishBurn k (c.endingOr .driverFault) true
  else s

/-- PULSE_END (R114, R123). -/
def execPulseEnd (k : Site) (inRegulation : Bool) (s : State) : Host.Outcome State Fault Refusal :=
  .next (s.live (State.pulseEnded k inRegulation))

/-- The fuse is taken out of the remaining set. -/
def Channel.acceptFuse (f : Fuse) (c : Channel) : Channel :=
  { c with
    attBits := c.attBits + 1
    remaining := match f with
      | .array n => c.remaining &&& ~~~fuseBit n
      | .lock => c.remaining }

/-- The fuse is accepted: the channel's and the record's counts (R114 step 4, R117). -/
def State.acceptFuse (k : Site) (f : Fuse) (s : State) : State :=
  match (s.chan k).burningTaking with
  | none => s
  | some (_, t) => (s.modChan k (Channel.acceptFuse f)).modRecord t.idx DieRecord.bitAccepted

/-- The ending of a fuse that was not accepted after Pmax pulses (R115, R117). -/
def Fuse.openEnding : Fuse → Ending
  | .array _ => .bitOpen
  | .lock => .lockOpen

/-- The measurement after a pulse (R114 steps 3 to 6, R117); under an ending already fixed the burn ends after
it, an acceptance being written as usual (R121). -/
def State.fuseMeasured (k : Site) (code : BitVec 10) (s : State) : State :=
  let c := s.chan k
  match c.curFuse, c.snapshot with
  | some f, some sn =>
    if c.pulsing ∧ c.measuring = true then
      let p := sn.profile
      if p.tp ≤ correctedCode code c.offset then
        let s1 := s.acceptFuse k f
        match c.ending with
        | some e => s1.finishBurn k e false
        | none =>
          match f with
          | .array _ => s1.modChan k (Channel.nextFuse p)
          | .lock => s1.finishBurn k .locked false
      else
        match c.ending with
        | some e => s.finishBurn k e false
        | none =>
          if c.curPulses < p.pmax then
            s.modChan k fun c => { c with curWidth := nextWidth p c.curWidth, driving := false, measuring := false }
          else s.finishBurn k f.openEnding false
    else s
  | _, _ => s

/-- FUSE_MEASUREMENT_DONE (R114, R115, R117). -/
def execFuseMeasurementDone (k : Site) (code : BitVec 10) (s : State) : Host.Outcome State Fault Refusal :=
  .next (s.live (State.fuseMeasured k code))

/-! ### The final verify (R116) -/

/-- The decision after the 352nd measurement of the final verify (R116). -/
def State.verifyDecided (k : Site) (p : Profile) (r : Image) (s : State) : State :=
  match (s.chan k).stagedImage with
  | none => s
  | some i =>
    if !onlyBitsOf r i then s.finishBurn k .fuseConflict false
    else if r ≠ i then s.finishBurn k .verifyLoss false
    else if lockOption i then s.modChan k (Channel.startLocking p)
    else s.finishBurn k .verified false

/-- One final-verify measurement (R116, R121). -/
def State.verifyMeasured (k : Site) (code : BitVec 10) (s : State) : State :=
  let c := s.chan k
  match c.state, c.snapshot with
  | .verifying, some sn =>
    match c.ending with
    | some e => s.finishBurn k e false
    | none =>
      let c1 := c.recordFuse (c.readsOne sn.profile.tr code)
      let s1 := s.modChan k fun _ => c1
      if c1.measured < 352 then s1 else s1.verifyDecided k sn.profile c1.readSoFar
  | _, _ => s

/-- VERIFY_MEASUREMENT (R116). -/
def execVerifyMeasurement (k : Site) (code : BitVec 10) (s : State) : Host.Outcome State Fault Refusal :=
  .next (s.live (State.verifyMeasured k code))

/-! ### Calibration (R131, R132) -/

/-- Words after the code in CALIBRATE's DONE (R168). -/
def calibrateWords (r : CalResult) (c : Channel) (rd : CalReadings) : List Word :=
  [wordOf r.code, signedWord c.offset, wordOfBool c.degraded] ++ rd.codes.map (fun x => x.setWidth 16) ++
    [wordOf rd.average, signedWord rd.deviation]

/-- The channel at the end of a calibration (R131, R132). -/
def Channel.calibrated (codes : List (BitVec 10)) (c : Channel) : Channel :=
  let d := calDeviation codes
  { c with
    state := if calResultOf d = .failed then .halted else .idle
    offset := calOffset d c.offset
    degraded := calDegraded d c.degraded
    calResult := some (calResultOf d)
    calReadings := some { codes := codes, average := calAverage codes, deviation := d }
    calRun := none }

/-- The fault of a calibration result (R131). -/
def CalResult.fault : CalResult → Option Nat
  | .calibrated => none
  | .limited => some 21
  | .failed => some 22

/-- A CALIBRATE that waits for channel `k` is answered with the result (R132). -/
def State.answerCalibrate (k : Site) (s : State) : State :=
  match s.sup.lane, (s.chan k).calResult, (s.chan k).calReadings with
  | some q, some r, some rd =>
    if q.task = .calibrate k then s.supAnswer Code.done.word (calibrateWords r (s.chan k) rd) else s
  | _, _, _ => s

/-- The end of a calibration: offset, result and fault, then the requests that wait for it (R131, R132, R103). -/
def State.endCalibration (k : Site) (kind : Byte) (codes : List (BitVec 10)) (s : State) : State :=
  let r := calResultOf (calDeviation codes)
  let s1 := s.modChan k (Channel.calibrated codes)
  let s2 := match r.fault with
    | some n => s1.report n (some k) none kind
    | none => s1
  ((s2.answerCalibrate k).loadRan k r).recheckBurn k

/-- One reference measurement (R131). -/
def State.calMeasured (k : Site) (code : BitVec 10) (s : State) : State :=
  let c := s.chan k
  match c.state, c.calRun with
  | .calibrating, some run =>
    let codes := run.codes ++ [code]
    if codes.length < 4 then s.modChan k fun c => { c with calRun := some { run with codes := codes } }
    else s.endCalibration k run.kind codes
  | _, _ => s

/-- CALIBRATION_MEASUREMENT (R131, R132). -/
def execCalibrationMeasurement (k : Site) (code : BitVec 10) (s : State) : Host.Outcome State Fault Refusal :=
  .next (s.live (State.calMeasured k code))

/-! ### Derivations (R82, R94, R95, R113) -/

/-- The slot with its image assembled, STAGED (R82). -/
def Slot.staged (image : Image) (x : Slot) : Slot := { x with state := .staged, image := some image }

/-- A slot's derivation is delivered to the slot, which is DERIVING: the image is assembled, and a channel WAITING
for the slot begins qualification (R82, R83). -/
def State.deliverSlot (k : Site) (l : SlotId) (n : Serial) (p : Pos) (lotTag : Word) (key : Key) (s : State) : State :=
  if ((s.chan k).slot l).state = .deriving then
    let s1 := s.modChan k fun c =>
      c.setSlot l ((c.slot l).staged (assembleImage n lotTag p s.lc.header.options key))
    if (s.chan k).state = .waiting ∧ (s.chan k).burning = some l then s1.startQualify k l else s1
  else s

/-- An adoption derivation is delivered: the channel in ADOPT WAIT compares the key (R113). -/
def State.deliverAdopt (k : Site) (key : Key) (s : State) : State :=
  let c := s.chan k
  match c.state, c.readImage with
  | .adoptWait, some r => s.finishBurn k (if key = readKey r then .adopted else .foreignDie) false
  | _, _ => s

/-- The slot an earlier taking's derivation belonged to is free of it (R81, R95). -/
def Slot.discarded (x : Slot) : Slot := { x with discardPending := false }

/-- A derivation completes: its key is delivered by its kind, or discarded (R94, R95). -/
def State.deliver (d : Derivation) (s : State) : State :=
  match d.entry with
  | .slot k l n p t =>
    if d.discard then s.modChan k fun c => c.setSlot l (c.slot l).discarded
    else s.deliverSlot k l n p t d.key
  | .adopt k _ _ _ => if d.discard then s else s.deliverAdopt k d.key
  | .fingerprint _ => if d.discard then s else s.deliverFingerprint d.key

/-- The derivation in progress completes, and the next entry is chosen (R93, R94). -/
def State.derived (s : State) : State :=
  match s.du.current with
  | none => s
  | some d => ((s.withDu { s.du with current := none }).deliver d).duStart

/-- DERIVATION_COMPLETE (R94). -/
def execDerivationComplete (s : State) : Host.Outcome State Fault Refusal := .next (s.live State.derived)

end Sys2Proof.Machine
end

