-- ==== Sys2Proof/Machine/SiteRequests.lean ====
section
/-!
DEFINITION. The five site requests (chapter 9), broken messages, the gap timeout and the sending of a reply.
-/

namespace Sys2Proof.Machine

/-- PREPARE (R46). -/
def execPrepare (k : Site) (tag : Byte) (p : Pos) (s : State) : Host.Outcome State Fault Refusal :=
  .next (s.live fun s => s.siteRequest k 0x01 tag (s.site k).cmd.isSome (State.takePrepare k tag p))

/-- RELEASE (R54). -/
def execRelease (k : Site) (tag : Byte) (p : Pos) (s : State) : Host.Outcome State Fault Refusal :=
  .next (s.live fun s => s.siteRequest k 0x02 tag (s.site k).cmd.isSome (State.takeRelease k tag p))

/-- BURN (R102). -/
def execBurn (k : Site) (tag : Byte) (p : Pos) (s : State) : Host.Outcome State Fault Refusal :=
  .next (s.live fun s => s.siteRequest k 0x03 tag (s.site k).burn.isSome (State.takeBurn k tag p))

/-- ABORT (R160). It travels on no lane. -/
def execAbort (k : Site) (tag : Byte) (s : State) : Host.Outcome State Fault Refusal :=
  .next (s.live fun s => s.siteRequest k 0x04 tag false (State.takeAbort k tag))

/-! ### STATUS (R161) -/

/-- Command lane: FREE 0, IN PROGRESS 1, WAITING BLOCK 2, HELD 3 (R159, R165). -/
def cmdLaneCode : Option PrepReq → Nat
  | none => 0
  | some q =>
    match q.phase with
    | .waitBlock _ => 2
    | .heldPosition | .heldSerial .. => 3
    | .lookup | .binding .. | .slotTaking _ => 1

/-- Hold kind, position and serial of a HELD PREPARE (R88, R161, R165). -/
def holdWords : Option PrepReq → List Word
  | none => [0, 0xFFFF, 0xFFFF, 0xFFFF]
  | some q =>
    match q.phase with
    | .heldPosition => [1, posWord q.pos, 0xFFFF, 0xFFFF]
    | .heldSerial _ n => [2, posWord q.pos, hiWord n, loWord n]
    | .lookup | .waitBlock _ | .binding .. | .slotTaking _ => [0, 0xFFFF, 0xFFFF, 0xFFFF]

/-- Next block state: ABSENT 0, PENDING 1, READY 2 (R165). -/
def NextBlock.code : NextBlock → Nat
  | .absent => 0
  | .pending => 1
  | .ready .. => 2

/-- A slot in five words: state, position, record index, serial (R164, R165). -/
def slotWords (x : Slot) : List Word :=
  match x.taking with
  | none => [wordOf x.state.code, 0xFFFF, 255, 0xFFFF, 0xFFFF]
  | some t => [wordOf x.state.code, posWord t.pos, wordOf t.idx, hiWord t.serial, loWord t.serial]

/-- The words of a site link's STATUS after the code, in the order of R161 (R164, R165, log 23). -/
def State.statusWords (k : Site) (s : State) : List Word :=
  let c := s.chan k
  let sl := s.site k
  let b := s.sa.blocks.get k
  [ wordOfBool s.fu.partStopped, wordOfBool (!sl.enabled),
    wordOf (cmdLaneCode sl.cmd), wordOfBool sl.burn.isSome ] ++ holdWords sl.cmd ++
  [ wordOfBool (s.lc.lotState == .isOpen), wordOf s.lc.wafer.code, wordOf s.lc.waferNumber,
    wordOf s.lc.cols, wordOf s.lc.rows, wordOf b.left, wordOf b.next.code ] ++
  slotWords c.slotA ++ [0] ++ slotWords c.slotB ++ [0] ++
  [ wordOf c.state.code, wordOf (slotCode c.burning), wordOf (classCode c.cls), wordOf c.attPulses,
    wordOf c.attBits, wordOf c.bounce, wordOf c.qualCounter, wordOfBool c.contact, wordOfBool c.contactLost,
    signedWord c.offset, wordOfBool c.degraded, wordOf (calCode c.calResult), wordOfBool c.calDeferred ]

/-- STATUS: overrun apart, answered at once whatever the state (R161, R157, R158). -/
def State.answerStatus (k : Site) (tag : Byte) (s : State) : State :=
  if s.full (.site k) then s.report 11 (some k) none 0x05
  else s.siteReply k 0x05 tag .done (s.statusWords k)

/-- STATUS (R161). -/
def execStatus (k : Site) (tag : Byte) (s : State) : Host.Outcome State Fault Refusal :=
  .next (s.live (State.answerStatus k tag))

/-! ### Link events -/

/-- The site a fault 11 of a link carries (R156). -/
def faultSite : Link → Option Site
  | .site k => some k
  | .supervisor => none

/-- A FRAME ERROR is formed, unless every reply place is in use; its fault 11 is reported either way (R156,
R157). -/
def State.frameError (l : Link) (kind tag : Byte) (s : State) : State :=
  let s1 := if s.full l then s else s.reply l { kind := kind, tag := tag, body := [Code.frameError.word] }
  s1.report 11 (faultSite l) none kind

/-- A whole message that fails a check of R156. A message that passes every check, or is not whole, is not one
(log 2). -/
def State.brokenMessage (l : Link) (m : List Word) (s : State) : State :=
  if !wholeMessage m then s
  else
    match checkFrame l m with
    | .bad kind tag => s.frameError l kind tag
    | .good _ => s

/-- FRAME_ERROR (R156). -/
def execFrameError (l : Link) (m : List Word) (s : State) : Host.Outcome State Fault Refusal :=
  .next (s.live (State.brokenMessage l m))

/-- A receiver at rest. -/
def LinkIo.await (io : LinkIo) : LinkIo := { io with rx := .await, buf := [], gap := 0 }

/-- The tag a FRAME ERROR of the gap timeout or of a length error carries: the received tag once word 0 is
complete (R156). -/
def LinkIo.partialTag (io : LinkIo) : Byte := io.buf.getD 1 0

/-- More than 1 ms passed without a byte: a FRAME ERROR is formed and the receiver returns to AWAIT (R155). -/
def State.gapExpired (l : Link) (s : State) : State :=
  match (s.io l).rx with
  | .await => s
  | .collect | .discard =>
    (s.frameError l 0 (s.io l).partialTag).withIo l (((s.frameError l 0 (s.io l).partialTag).io l).await)

/-- GAP_TIMEOUT (R155). -/
def execGapTimeout (l : Link) (s : State) : Host.Outcome State Fault Refusal :=
  .next (s.live (State.gapExpired l))

/-- The last byte of the oldest reply has been sent: its place is free (R157). -/
def LinkIo.sent (io : LinkIo) : LinkIo := { io with replies := io.replies.drop 1 }

/-- REPLY_SENT (R157). -/
def execReplySent (l : Link) (s : State) : Host.Outcome State Fault Refusal :=
  .next (s.live fun s => s.withIo l (s.io l).sent)

end Sys2Proof.Machine
end

