-- ==== Sys2Proof/Machine/SupervisorRequests.lean ====
section
/-!
DEFINITION. The supervisor's requests on sites, watches, faults and alerts (sections 10.3 to 10.5, 11.2), and
the sweep of RESET SITE (R65).
-/

namespace Sys2Proof.Machine

/-! ### Sites -/

/-- ENABLE SITE (R171). -/
def enableSiteAct (site : Word) (s : State) : State :=
  match siteOf site with
  | none => s.supAnswer Code.badRange.word []
  | some k =>
    (s.modSite k fun sl => { sl with enabled := true }).supAnswer Code.done.word
      [wordOfBool (!(s.site k).enabled)]

/-- ENABLE_SITE (R171). -/
def execEnableSite (tag : Byte) (site : Word) (s : State) : Host.Outcome State Fault Refusal :=
  .next (s.live fun s => s.supRequest 0x28 tag (enableSiteAct site))

/-- Slots of a channel that are not EMPTY. -/
def Channel.slotsTaken (c : Channel) : Nat :=
  (if c.slotA.state = .empty then 0 else 1) + (if c.slotB.state = .empty then 0 else 1)

/-- Both slots of site `k` are released, each as a RELEASE (R84), after the accesses that wait before (R44, log 12); with
both EMPTY no access is made. -/
def State.releaseSlots (k : Site) (s : State) : State :=
  if (s.chan k).slotsTaken = 0 then s else ((s.drainFor k false).releaseSlot k .a).releaseSlot k .b

/-- DISABLE SITE (R172). -/
def disableSiteAct (site : Word) (s : State) : State :=
  match siteOf site with
  | none => s.supAnswer Code.badRange.word []
  | some k =>
    if (s.site k).cmd.isSome ∨ (s.site k).burn.isSome then s.supAnswer Code.siteActive.word []
    else
      ((s.releaseSlots k).modSite k fun sl => { sl with enabled := false }).supAnswer Code.done.word
        [wordOf (s.chan k).slotsTaken]

/-- DISABLE_SITE (R172). -/
def execDisableSite (tag : Byte) (site : Word) (s : State) : Host.Outcome State Fault Refusal :=
  .next (s.live fun s => s.supRequest 0x29 tag (disableSiteAct site))

/-- The deferred calibration is dropped, and a calibration in progress is abandoned: no result and no fault (R126, R134).
That its channel becomes UNCALIBRATED with it, at the acceptance, and not with the later step of R126 and R173 is the model's
choice, log 15. -/
def Channel.dropCal (c : Channel) : Channel :=
  { c with
    calDeferred := false
    calRun := none
    state := if c.state = .calibrating then .uncalibrated else c.state }

/-- Site requests of site `k` that a RESET SITE answers (R173, log 14). -/
def SiteLink.outstanding (sl : SiteLink) : Nat :=
  sl.cmd.toList.length + sl.burn.toList.length + sl.aborts.length

/-- The acceptance of RESET SITE: step 1 of R173; the sweep and the later steps are taken as one access
(RESET_SITE_SWEEP). -/
def resetSiteAct (site : Word) (s : State) : State :=
  match siteOf site with
  | none => s.supAnswer Code.badRange.word []
  | some k =>
    ((s.supTask (.resetSite k (s.site k).outstanding (s.chan k).state)).modChan k Channel.dropCal).endSiteWork
      k false

/-- RESET_SITE (R173). -/
def execResetSite (tag : Byte) (site : Word) (s : State) : Host.Outcome State Fault Refusal :=
  .next (s.live fun s => s.supRequest 0x2A tag (resetSiteAct site))

/-- A record under the sweep of RESET SITE: a RESERVED one that site `k` holds loses its holder (R65). -/
def DieRecord.sweptBy (k : Site) (r : DieRecord) : DieRecord :=
  if r.state = .reserved ∧ r.holder.map (·.site) = some k then r.unheld else r

/-- The channel after RESET SITE; a read that stands there is discarded with R and L (R75, R126, R127, R135, R140). -/
def Channel.siteReset (c : Channel) : Channel :=
  { c with
    state := .uncalibrated
    calResult := none
    calReadings := none
    calRun := none
    calDeferred := false
    burning := none
    snapshot := none
    readImage := none
    lockRead := none
    readSoFar := 0
    measured := 0
    remaining := 0
    cls := none
    curFuse := none
    lookupWait := false
    driving := false
    measuring := false
    qualCounter := 0
    bounce := 0
    qualTimer := 0 }

/-- Steps 2 to 5 of R173, with its reply. -/
def State.sweepSite (k : Site) (answered : Nat) (before : ChanState) (s : State) : State :=
  let s1 := s.withDrt (s.drt.convert (DieRecord.sweptBy k))
  let s2 := (s1.emptySlots k).duWithdraw (DEntry.isAdopt k)
  (s2.modChan k Channel.siteReset).supAnswer Code.done.word [wordOf answered, wordOf before.code]

/-- The sweep of RESET SITE is taken once the site's lanes are free; work taken on them meanwhile is ended first
(R65, R173, log 14). It goes on in part STOP, and ends a PREPARE that has been held meanwhile there too (the model's choice,
log 45). -/
def State.takeSweep (k : Site) (s : State) : State :=
  match s.sup.lane with
  | none => s
  | some q =>
    match q.task with
    | .resetSite j answered before =>
      if j = k ∧ s.portCurrent = true then
        let s1 := s.endSiteWork k false
        if (s1.site k).cmd.isSome ∨ (s1.site k).burn.isSome then s1 else s1.sweepSite k answered before
      else s
    | .plain | .loadWafer | .calibrate _ | .readRecords .. | .readChanged .. => s

/-- RESET_SITE_SWEEP (R65). -/
def execResetSiteSweep (k : Site) (s : State) : Host.Outcome State Fault Refusal :=
  .next (s.live (State.takeSweep k))

/-! ### Watches -/

/-- A watch entry in the replies that give it whole: kind, value, action, hit count in two words (R168, R174, R180). -/
def watchWords (w : WatchEntry) : List Word :=
  [wordOf w.content.kindCode] ++ w.content.valueWords ++ [wordOfBool w.hold] ++ twoWords w.hits

/-- SET WATCH (R174); the hit count is a count of R168, in two words. -/
def setWatchAct (entry kind action : Word) (value : BitVec 32) (s : State) : State :=
  match siteOf entry, watchContentOf kind value with
  | some e, some w =>
    if action.toNat ≤ 1 then
      let old := s.wt.get e
      (s.withWt (s.wt.set e { content := w, hold := action == 1, hits := 0 })).supAnswer Code.done.word
        ([wordOf old.content.kindCode] ++ twoWords old.hits)
    else s.supAnswer Code.badRange.word []
  | _, _ => s.supAnswer Code.badRange.word []

/-- SET_WATCH (R174). -/
def execSetWatch (tag : Byte) (entry kind action : Word) (value : BitVec 32) (s : State) :
    Host.Outcome State Fault Refusal :=
  .next (s.live fun s => s.supRequest 0x2B tag (setWatchAct entry kind action value))

/-- CLEAR WATCH (R175): the reply gives the entry as it stood (R168). -/
def clearWatchAct (entry : Word) (s : State) : State :=
  match siteOf entry with
  | none => s.supAnswer Code.badRange.word []
  | some e =>
    (s.withWt (s.wt.set e WatchEntry.reset)).supAnswer Code.done.word (watchWords (s.wt.get e))

/-- CLEAR_WATCH (R175). -/
def execClearWatch (tag : Byte) (entry : Word) (s : State) : Host.Outcome State Fault Refusal :=
  .next (s.live fun s => s.supRequest 0x2C tag (clearWatchAct entry))

/-- RELEASE HOLD: the held PREPARE's lookup or slot access is taken after those that wait before it, and the request is
answered (R44, R89, R176). -/
def releaseHoldAct (site : Word) (s : State) : State :=
  match siteOf site with
  | none => s.supAnswer Code.badRange.word []
  | some k =>
    match (s.site k).cmd with
    | none => s.supAnswer Code.done.word [0, 0, 0xFFFF]
    | some q =>
      match q.phase with
      | .heldPosition => ((s.drainFor k false).lookupTaken k q.pos).supAnswer Code.done.word [1, 1, posWord q.pos]
      | .heldSerial idx _ => ((s.drainFor k false).slotAccess k idx).supAnswer Code.done.word [1, 2, posWord q.pos]
      | .lookup | .waitBlock _ | .binding .. | .slotTaking _ => s.supAnswer Code.done.word [0, 0, 0xFFFF]

/-- RELEASE_HOLD (R176). -/
def execReleaseHold (tag : Byte) (site : Word) (s : State) : Host.Outcome State Fault Refusal :=
  .next (s.live fun s => s.supRequest 0x2D tag (releaseHoldAct site))

/-! ### Faults and alerts -/

/-- A site of a fault record, 255 when absent (R184). -/
def siteWord : Option Site → Word
  | some k => wordOf k.val
  | none => 255

/-- A position of a fault record, 0xFFFF when absent (R184). -/
def positionWord : Option Pos → Word
  | some p => posWord p
  | none => 0xFFFF

/-- A fault record in six words; of an absent one the manual gives only code 0 (R184, log 23). -/
def faultWords : Option FaultRecord → List Word
  | none => [0, siteWord none, positionWord none, 0, 0, 0]
  | some f =>
    [wordOf f.code, siteWord f.site, positionWord f.pos, f.kind.setWidth 16, hiWord f.stamp, loWord f.stamp]

/-- The words of READ FAULTS (R184). -/
def FaultUnit.words (u : FaultUnit) : List Word :=
  [wordOfBool u.latch, wordOf u.count, wordOfBool u.partStopped, wordOfBool u.resetLineCause] ++
    faultWords u.first ++ faultWords u.last

/-- READ_FAULTS (R184). -/
def execReadFaults (tag : Byte) (s : State) : Host.Outcome State Fault Refusal :=
  .next (s.live fun s => s.supRequest 0x32 tag fun s => s.supAnswer Code.done.word s.fu.words)

/-- The fault unit with its latch clear, no records and a count of 0 (R185). -/
def FaultUnit.cleared (u : FaultUnit) : FaultUnit := { u with latch := false, first := none, last := none, count := 0 }

/-- CLEAR_FAULTS (R185); the count before the clearing takes two words (R168). -/
def execClearFaults (tag : Byte) (s : State) : Host.Outcome State Fault Refusal :=
  .next (s.live fun s => s.supRequest 0x33 tag fun s =>
    (s.withFu s.fu.cleared).supAnswer Code.done.word (twoWords s.fu.count))

/-- ACK ALERT (R179). -/
def ackAlertAct (named : Word) (s : State) : State :=
  let f := s.fu.flags.without (AlertFlags.ofWord named)
  (s.modFlags fun _ => f).supAnswer Code.done.word [f.toWord, s.fu.mask.toWord]

/-- ACK_ALERT (R179). -/
def execAckAlert (tag : Byte) (named : Word) (s : State) : Host.Outcome State Fault Refusal :=
  .next (s.live fun s => s.supRequest 0x34 tag (ackAlertAct named))

/-- SET ALERT MASK (R178). -/
def setAlertMaskAct (mask : Word) (s : State) : State :=
  (s.withFu { s.fu with mask := AlertFlags.ofWord mask }).supAnswer Code.done.word
    [(AlertFlags.ofWord mask).toWord, s.fu.flags.toWord]

/-- SET_ALERT_MASK (R178). -/
def execSetAlertMask (tag : Byte) (mask : Word) (s : State) : Host.Outcome State Fault Refusal :=
  .next (s.live fun s => s.supRequest 0x35 tag (setAlertMaskAct mask))

end Sys2Proof.Machine
end

