-- ==== Sys2Proof/Machine/SupervisorReads.lean ====
section
/-!
DEFINITION. The supervisor's reads: records, changed pages, the summary and READ STATUS (sections 3.7, 3.8, 10.6).
-/

namespace Sys2Proof.Machine

/-! ### Records (R60, R61, R62) -/

/-- The reply of READ RECORDS: first index, number of records in one word (log 43), the records (R61, R168). -/
def recordsReply (first : Nat) (copied : List Word) : List Word :=
  [wordOf first, wordOf (copied.length / 8)] ++ copied

/-- READ RECORDS (R61). With no record at the first index and no site-side access waiting, the first copy would be made
now and nothing is to be copied; while one waits, the copy comes after it (R44, log 26). -/
def readRecordsAct (first count : Word) (s : State) : State :=
  if 8191 < first.toNat ∨ count.toNat = 0 ∨ 64 < count.toNat then s.supAnswer Code.badRange.word []
  else if s.port = [] ∧ s.drt.records.length ≤ first.toNat then s.supAnswer Code.done.word (recordsReply first.toNat [])
  else s.supTask (.readRecords first.toNat count.toNat [])

/-- READ_RECORDS (R61). -/
def execReadRecords (tag : Byte) (first count : Word) (s : State) : Host.Outcome State Fault Refusal :=
  .next (s.live fun s => s.supRequest 0x2E tag (readRecordsAct first count))

/-- The lowest-numbered page whose mark is set (R60). -/
def Table.markedPage (d : Table) : Option Nat := (List.range 128).find? fun p => d.marks[p]?.getD false

/-- Any page's mark is set (R60). -/
def Table.anyMark (d : Table) : Bool := d.markedPage.isSome

/-- READ CHANGED (R60). That no mark is set is tested at the acceptance, ahead of site-side accesses that wait: R60 does
not say when (the model's choice, log 26). -/
def readChangedAct (s : State) : State :=
  if s.drt.anyMark then s.supTask (.readChanged none [])
  else s.supAnswer Code.done.word [0xFFFF, 0, 0]

/-- READ_CHANGED (R60). -/
def execReadChanged (tag : Byte) (s : State) : Host.Outcome State Fault Refusal :=
  .next (s.live fun s => s.supRequest 0x2F tag readChangedAct)

/-- One copy for READ RECORDS: the next record as it stands, and the reply after the last, or with what has been copied
when the index is at or beyond the record count now (R61). -/
def State.copyRecords (first left : Nat) (copied : List Word) (s : State) : State :=
  let i := first + copied.length / 8
  match s.recordAt i with
  | none => s.supAnswer Code.done.word (recordsReply first copied)
  | some r =>
    let copied' := copied ++ r.packed
    if left ≤ 1 ∨ s.drt.records.length ≤ i + 1 then s.supAnswer Code.done.word (recordsReply first copied')
    else s.supTask (.readRecords first (left - 1) copied')

/-- The reply of READ CHANGED: page, number of records in one word (log 43), whether any mark is set, the records (R60, R168). -/
def State.changedReply (page : Nat) (copied : List Word) (s : State) : List Word :=
  [wordOf page, wordOf (copied.length / 8), wordOfBool s.drt.anyMark] ++ copied

/-- One copy of a page for READ CHANGED, and the reply after the page's last record (R60). -/
def State.copyPage (page : Nat) (copied : List Word) (s : State) : State :=
  let i := 64 * page + copied.length / 8
  match s.recordAt i with
  | none => s.supAnswer Code.done.word (s.changedReply page copied)
  | some r =>
    let copied' := copied ++ r.packed
    if copied.length / 8 = 63 ∨ s.drt.records.length ≤ i + 1 then
      s.supAnswer Code.done.word (s.changedReply page copied')
    else s.supTask (.readChanged (some page) copied')

/-- The first access of READ CHANGED: it takes the lowest marked page and clears its mark (R60). -/
def State.copyFirst (s : State) : State :=
  match s.drt.markedPage with
  | none => s.supAnswer Code.done.word [0xFFFF, 0, 0]
  | some p => (s.withDrt { s.drt with marks := s.drt.marks.setIfInBounds p false }).copyPage p []

/-- One record copy of the read in progress; a site-side access that waits is taken first (R44). -/
def State.copyRecord (s : State) : State :=
  match s.sup.lane, s.port with
  | some q, [] =>
    match q.task with
    | .readRecords first left copied => s.copyRecords first left copied
    | .readChanged none _ => s.copyFirst
    | .readChanged (some p) copied => s.copyPage p copied
    | .plain | .loadWafer | .calibrate _ | .resetSite .. => s
  | _, _ => s

/-- RECORD_COPY (R44). -/
def execRecordCopy (s : State) : Host.Outcome State Fault Refusal := .next (s.live State.copyRecord)

/-- The words of READ SUMMARY: the counters of R62 in two words each (R168). -/
def State.summaryWords (s : State) : List Word :=
  twoWords s.drt.records.length ++ allRecStates.flatMap (fun st => twoWords (s.drt.counts.get st)) ++
  twoWords s.drt.counts.exhausted ++ twoWords s.drt.counts.recovered ++ twoWords s.drt.counts.skipped ++
  [ wordOf s.lc.wafer.code, wordOf s.lc.waferNumber, wordOf s.lc.cols, wordOf s.lc.rows ]

/-- READ SUMMARY: its copy of the counters follows every site-side access that waits (R44, R62). -/
def readSummaryAct (s : State) : State := s.drainAll.supAnswer Code.done.word s.drainAll.summaryWords

/-- READ_SUMMARY (R62). -/
def execReadSummary (tag : Byte) (s : State) : Host.Outcome State Fault Refusal :=
  .next (s.live fun s => s.supRequest 0x30 tag readSummaryAct)

/-! ### READ STATUS (R180) -/

/-- Current and next block of a site: next serial (2), end (2), next block's state, start (2), end (2) (R21, R165). An end
of 4,294,967,296, and the next serial of an emptied block with that end, read 0 (the model's choice, log 24). -/
def blockWords (b : SiteBlocks) : List Word :=
  (match b.current with
    | some c => twoWords c.next ++ twoWords c.stop
    | none => [0xFFFF, 0xFFFF, 0xFFFF, 0xFFFF]) ++
  [wordOf b.next.code] ++
  match b.next with
  | .ready start stop => twoWords start ++ twoWords stop
  | .absent | .pending => [0xFFFF, 0xFFFF, 0xFFFF, 0xFFFF]

/-- A site in READ STATUS (R180). -/
def siteWords (sl : SiteLink) : List Word :=
  [wordOfBool (!sl.enabled), wordOf (cmdLaneCode sl.cmd), wordOfBool sl.burn.isSome] ++ holdWords sl.cmd

/-- A slot in READ STATUS: six words, the sixth discard pending (R165). -/
def slotStatusWords (x : Slot) : List Word := slotWords x ++ [wordOfBool x.discardPending]

/-- An entry of the derivation queue: kind and site (R165). -/
def DEntry.code : DEntry → Word
  | .slot k .. => joinBytes 0 (BitVec.ofNat 8 k.val)
  | .adopt k .. => joinBytes 1 (BitVec.ofNat 8 k.val)
  | .fingerprint _ => joinBytes 2 255

/-- A list at its largest size, 0xFFFF in the unused places (R165). -/
def padTo (n : Nat) (ws : List Word) : List Word := ws ++ List.replicate (n - ws.length) 0xFFFF

/-- The derivation unit in READ STATUS (R92, R93, R165). -/
def DerivUnit.words (u : DerivUnit) : List Word :=
  [wordOf u.queue.length] ++ padTo 9 (u.queue.map DEntry.code) ++
  [ match u.current with
    | some d => d.entry.code
    | none => 0xFFFF ] ++ [wordOf u.pointer.val]

/-- The last calibration readings: four codes, average, deviation, absent as 255 (R130, R165). -/
def readingWords : Option CalReadings → List Word
  | some r => r.codes.map (fun x => x.setWidth 16) ++ [wordOf r.average, signedWord r.deviation]
  | none => [255, 255, 255, 255, 255, 255]

/-- A channel in READ STATUS: the fields R101 reports with the bounce count in two words, the calibration state and the
snapshot's generation number (R180, log 23). -/
def channelWords (c : Channel) : List Word :=
  [ wordOf c.state.code, wordOf (slotCode c.burning), wordOf (classCode c.cls), wordOf c.attPulses,
    wordOf c.attBits ] ++ twoWords c.bounce ++ [ wordOfBool c.contact, wordOfBool c.contactLost,
    signedWord c.offset, wordOfBool c.degraded, wordOf (calCode c.calResult), wordOfBool c.calDeferred ] ++
  readingWords c.calReadings ++
  [ match c.snapshot with
    | some sn => sn.gen
    | none => 255 ]

/-- An entry of the journal queue: kind and word number (R165). -/
def JEntry.code : JEntry → Word
  | .header w _ => joinBytes 0 (BitVec.ofNat 8 w)
  | .lotState _ => joinBytes 1 0
  | .wafer _ => joinBytes 2 10
  | .advance _ => joinBytes 3 9
  | .rideThrough _ => joinBytes 4 11

/-- The journal store in READ STATUS (R142, R165). -/
def Journal.statusWords (j : Journal) : List Word :=
  [wordOf j.queue.length] ++ padTo 12 (j.queue.map JEntry.code) ++
  (match j.write with
    | some w => [w.entry.code, if w.second then 2 else 1]
    | none => [0xFFFF, 0xFFFF]) ++
  [wordOfBool j.held, wordOf j.rideMirror]

/-- The lot in READ STATUS (R180). -/
def LotController.words (lc : LotController) : List Word :=
  [ wordOf lc.lotState.code, wordOfBool lc.secret.isSome, lc.header.lotTag, hiWord lc.header.first,
    loWord lc.header.first, hiWord lc.header.count, loWord lc.header.count, lc.header.options,
    lc.header.fp1, lc.header.fp2, lc.lastWafer, hiWord lc.clock, loWord lc.clock ] ++
  [wordOf lc.wafer.code, wordOf lc.waferNumber, wordOf lc.cols, wordOf lc.rows]

/-- The serial allocator in READ STATUS (R21, R180). -/
def Allocator.words (a : Allocator) : List Word :=
  [wordOf a.mark, wordOf a.outstanding, wordOfBool a.exhausted] ++ twoWords a.drawn ++
    a.blocks.toList.flatMap blockWords

/-- Part, with the fault count in two words, supervisor link and alerts in READ STATUS (R180). -/
def State.partWords (s : State) : List Word :=
  [ wordOfBool s.fu.partStopped, wordOfBool s.fu.resetLineCause, wordOfBool s.fu.latch ] ++
  twoWords s.fu.count ++
  [ wordOfBool s.sup.lane.isSome,
    match s.sup.lane with
    | some q => q.kind.setWidth 16
    | none => 0 ] ++
  [s.fu.flags.toWord, s.fu.mask.toWord, wordOfBool s.fu.alertLevel]

/-- The words of READ STATUS after the code, in the order of R180 (R165, log 23). -/
def State.readStatusWords (s : State) : List Word :=
  s.partWords ++ s.lc.words ++ s.sa.words ++ s.sites.toList.flatMap siteWords ++
  s.chans.toList.flatMap (fun c => slotStatusWords c.slotA ++ slotStatusWords c.slotB) ++
  s.du.words ++ s.chans.toList.flatMap channelWords ++
  (s.ps.profile.fields.map wordOf ++ [s.ps.gen]) ++ s.js.statusWords ++ s.wt.toList.flatMap watchWords

/-- READ STATUS: overrun apart, answered at once whatever the part and the lane hold (R169, R180). -/
def State.answerReadStatus (tag : Byte) (s : State) : State :=
  if s.full .supervisor then s.report 11 none none 0x31
  else s.supReply 0x31 tag .done s.readStatusWords

/-- READ_STATUS (R180). -/
def execReadStatus (tag : Byte) (s : State) : Host.Outcome State Fault Refusal :=
  .next (s.live (State.answerReadStatus tag))

end Sys2Proof.Machine
end

