-- ==== Sys2Proof/Machine/ResetOps.lean ====
section
/-!
DEFINITION. Part STOP (R186) and the two resets (the reset tables of the chapters), with the start-up read of the
journal (R3, R152).
-/

namespace Sys2Proof.Machine

/-! ### Part STOP (R186) -/

/-- The journal store at part STOP: stopped, its queue discarded (R148). -/
def Journal.halt (j : Journal) : Journal := { j with stopped := true, queue := [] }

/-- A site's blocks at part STOP: a PENDING next block becomes absent (R32). -/
def SiteBlocks.unpended (b : SiteBlocks) : SiteBlocks :=
  match b.next with
  | .pending => { b with next := .absent }
  | .absent | .ready .. => b

/-- The serial allocator at part STOP (R32). -/
def Allocator.halt (a : Allocator) : Allocator :=
  { a with outstanding := 0, blocks := a.blocks.map SiteBlocks.unpended }

/-- The waiting draw of site `k` is withdrawn and its PREPARE answered PART STOPPED; a held PREPARE stays held
(R32, R52, R90). A PREPARE whose lookup, binding or slot access waits at the port keeps it: the access is taken during
the stop and answered by what it finds (the model's choice, log 38). -/
def State.stopDraw (k : Site) (s : State) : State :=
  match (s.site k).cmd with
  | none => s
  | some q =>
    match q.phase with
    | .waitBlock idx => s.endClaimed k idx .partStopped
    | .lookup | .binding .. | .slotTaking _ | .heldPosition | .heldSerial .. => s

/-- The burn lane of site `k` at part STOP: its deferred calibration is dropped, a BURN waiting on a calibration is
answered PART STOPPED, and a burn in progress ends as under ABORT (R103, R124). -/
def State.stopBurn (k : Site) (s : State) : State :=
  let s1 := s.modChan k fun c => { c with calDeferred := false }
  match (s.site k).burn with
  | none => s1
  | some b =>
    if b.waitsCal then s1.answerBurn k Code.partStopped.word [] else s1.interruptBurn k .partStopped

/-- The lot controller at part STOP: what is in progress ends, and its request is answered PART STOPPED (R6, R8,
R11, R15). -/
def State.stopLot (s : State) : State :=
  match s.lc.lotState with
  | .opening =>
    (s.withLc { s.lc with secret := none, lotState := s.lc.before }).supAnswer Code.partStopped.word []
  | .resuming | .closing =>
    (s.withLc { s.lc with secret := none, lotState := .suspended }).supAnswer Code.partStopped.word []
  | .empty | .isOpen | .suspended | .closed =>
    if s.lc.wafer = .loading then
      (s.withLc { s.lc with wafer := .none, load := none }).supAnswer Code.partStopped.word []
    else s

/-- Part STOP taken by every block (R186). The waiting draws are answered before the burns, and each from site 0 to 3;
R186 orders none of this (the model's choice, log 42). -/
def State.partStop (s : State) : State :=
  let s1 := (s.withFu { s.fu with partStopped := true }).withJs s.js.halt
  let s2 := (s1.withSa s.sa.halt).duWithdraw DEntry.isFingerprint
  let s3 := allSites.foldl (fun s k => s.stopDraw k) s2.stopLot
  allSites.foldl (fun s k => s.stopBurn k) s3

/-! ### The start-up read (R3, R28, R152) -/

/-- The lot state a stored word 0 gives (R3). -/
def lotStateOf (w : Word) : LotState :=
  if w = 0 then .empty else if w = 2 then .closed else .suspended

/-- The header mirror from words 1 to 8 (R3). -/
def Journal.header (j : Journal) : LotHeader :=
  { lotTag := j.word 1
    first := joinWords (j.word 2) (j.word 3)
    count := joinWords (j.word 4) (j.word 5)
    options := j.word 6
    fp1 := j.word 7
    fp2 := j.word 8 }

/-- The lot controller after the start-up read; its clock restarts and its secret is erased (R3, R12, R18, R19). -/
def Journal.startLc (j : Journal) (wafer : WaferState) (number cols rows : Nat) : LotController :=
  { LotController.reset with
    lotState := lotStateOf (j.word 0)
    header := j.header
    lastWafer := j.word 10
    wafer := wafer
    waferNumber := number
    cols := cols
    rows := rows }

/-- The serial allocator after the start-up read (R3, R28, R33). -/
def Journal.startSa (j : Journal) (drawn : Nat) : Allocator :=
  { Allocator.reset with
    mark := (j.word 9).toNat
    exhausted := lotStateOf (j.word 0) == .suspended && decide (j.header.count.toNat ≤ 16 * (j.word 9).toNat)
    drawn := drawn }

/-- The journal store after either reset (R152). -/
def Journal.restarted (pwrwarn : Bool) (j : Journal) : Journal :=
  { Journal.reset with words := j.words, held := pwrwarn, rideMirror := (j.word 11).toNat }

/-! ### The RESET line -/

/-- A record when the RESET line takes effect (R64, R41). -/
def DieRecord.lineReset (r : DieRecord) : DieRecord :=
  match r.state with
  | .burning =>
    { r with state := .interrupted, lastOutcome := some .reset, holder := none, stamp := 0,
             exhausted := r.exhausted || r.attempts == 3 }
  | .reserved => { r with holder := none }
  | .interrupted | .failed | .verified | .locked | .retired | .foreign | .void => r

/-- The last calibration result is a success, with or without limit (R127). -/
def calSucceeded : Option CalResult → Bool
  | some .calibrated | some .limited => true
  | some .failed | none => false

/-- A channel when the RESET line takes effect (R99, R127, R135, R140). -/
def Channel.lineReset (c : Channel) : Channel :=
  { Channel.reset with
    state := if calSucceeded c.calResult then .idle else .uncalibrated
    offset := c.offset
    degraded := c.degraded
    calResult := c.calResult
    calReadings := c.calReadings
    contact := c.contact }

/-- A site link controller when the RESET line takes effect (R163). -/
def SiteLink.lineReset (sl : SiteLink) : SiteLink := { SiteLink.reset with enabled := sl.enabled }

/-- The fault unit when the RESET line takes effect (R181, R189). -/
def FaultUnit.lineReset (u : FaultUnit) : FaultUnit :=
  { u with partStopped := false, flags := AlertFlags.none, mask := AlertFlags.all, resetLineCause := true }

/-- The wafer state when the RESET line takes effect (R19). -/
def WaferState.lineReset (w : WaferState) : WaferState := if w = .loading then .none else w

/-- The RESET line takes effect (R151), block by block as the reset tables give. -/
def State.lineReset (s : State) : State :=
  { lc := s.js.startLc s.lc.wafer.lineReset s.lc.waferNumber s.lc.cols s.lc.rows
    sa := s.js.startSa s.sa.drawn
    drt := s.drt.convert DieRecord.lineReset
    port := []
    du := DerivUnit.reset
    chans := s.chans.map Channel.lineReset
    ps := s.ps
    js := s.js.restarted s.pwrwarn
    wt := Four.all WatchEntry.reset
    fu := s.fu.lineReset
    sites := s.sites.map SiteLink.lineReset
    sup := { io := LinkIo.reset, lane := none }
    pwrwarn := s.pwrwarn
    powered := s.powered
    resetWaiting := false
    now := s.now
    freeCount := s.freeCount
    pending := s.pending }

/-! ### Power-on reset and loss of supply -/

/-- A loss of supply cuts the word write in progress: its word holds a value that cannot be known (R151, log 29). -/
def State.cutWrite (s : State) : State :=
  match s.js.write with
  | none => s
  | some w =>
    (s.withJs { s.js.setWord w.entry.word (Config.freeWord s.freeCount) with write := none }).withFreeCount
      (s.freeCount + 1)

/-- The part after power-on reset: the initial values of every block and the start-up read (R3, R152). The journal
words, the comparators and PWRWARN are as they stand. -/
def State.powerOn (s : State) : State :=
  { State.reset with
    lc := s.js.startLc .none 0 0 0
    sa := s.js.startSa 0
    js := s.js.restarted s.pwrwarn
    chans := s.chans.map fun c => { Channel.reset with contact := c.contact }
    pwrwarn := s.pwrwarn
    now := s.now
    freeCount := s.freeCount
    pending := s.pending }

end Sys2Proof.Machine
end

