-- ==== Sys2Proof/Machine/JournalEvents.lean ====
section
/-!
DEFINITION. What happens in the journal store, at the PWRWARN and RESET pins and at the supply (chapter 8).
-/

namespace Sys2Proof.Machine

/-! ### Word writes (R146, R147) -/

/-- The completion of an entry is handed on (R143). An advance that completes while a RESET line waits places no
block (R151, R33). -/
def State.handOn (e : JEntry) (value : Word) (s : State) : State :=
  match e with
  | .header .. => s
  | .lotState v => if v = 1 then s.completeOpen else s.completeClose
  | .wafer v => s.completeWafer v
  | .advance k => if s.resetWaiting then s else s.completeAdvance k (value.toNat - 1)
  | .rideThrough _ => s.withJs { s.js with rideMirror := value.toNat }

/-- A write has ended: the RESET line that waited for it takes effect, or the next write is begun (R145, R151). -/
def State.writeEnded (s : State) : State := if s.resetWaiting then s.lineReset else s.jsStart

/-- A try's read-back (R146): all 16 bits are compared, and the word holds what was read (log 28). What erase and program
phase do to the word before it stands in `Journal.phaseEnds`. -/
def State.tryEnded (readBack : Word) (s : State) : State :=
  match s.js.write with
  | none => s
  | some w =>
    if w.phase = .finalErase then s
    else
      let j := s.js.setWord w.entry.word readBack
      if readBack = w.value then
        ((s.withJs { j with write := none }).handOn w.entry w.value).writeEnded
      else if w.second then s.withJs { j with write := some { w with phase := .finalErase, elapsed := 0 } }
      else s.withJs { j with write := some { w with second := true, phase := .erase, elapsed := 0 } }

/-- JOURNAL_TRY_END (R146). -/
def execJournalTryEnd (readBack : Word) (s : State) : Host.Outcome State Fault Refusal :=
  .next (s.live (State.tryEnded readBack))

/-- The final erase of a failed write ends: the word holds 65535, fault 71 is reported and part STOP taken (R147,
R148, R186). A RESET line that waited takes effect right then, before the ending writes of the burns that the stop ended
(the model's choice, log 46). -/
def State.writeFailed (s : State) : State :=
  match s.js.write with
  | none => s
  | some w =>
    if w.phase = .finalErase then
      let s1 := ((s.withJs { s.js.setWord w.entry.word 0xFFFF with write := none }).report 71 w.entry.site none
        w.entry.requestKind).partStop
      if s1.resetWaiting then s1.lineReset else s1
    else s

/-- JOURNAL_WRITE_FAIL (R147). -/
def execJournalWriteFail (s : State) : Host.Outcome State Fault Refusal := .next (s.live State.writeFailed)

/-! ### PWRWARN (R149, R150) -/

/-- An assertion taken: the queue is held, POWER is set, and burns past qualification end (R149, R122, R177). Burns that
end at once do so from site 0 to 3 and report their faults 61 in that order, one of those R183 allows (the model's choice,
log 39). -/
def State.warned (s : State) : State :=
  allSites.foldl (fun s k => s.warnBurn k)
    ((s.withJs { s.js with held := true, warningSeen := true }).modFlags AlertFlags.setPower)

/-- PWRWARN_ASSERT (R149). The pin's level is followed with or without a supply (log 9). -/
def execPwrwarnAssert (s : State) : Host.Outcome State Fault Refusal :=
  .next (if s.pwrwarn then s else (s.withPwrwarn true).live State.warned)

/-- One more ride-through: the increment on the queue is raised, or one is placed at the tail (R150). -/
def countRideThrough : List JEntry → List JEntry
  | [] => [.rideThrough 1]
  | .rideThrough n :: rest => .rideThrough (min 65535 (n + 1)) :: rest
  | e :: rest => e :: countRideThrough rest

/-- The journal store at a deassertion, steps 1 to 3 of R150. -/
def Journal.released (j : Journal) : Journal :=
  { j with
    held := false
    warningSeen := false
    queue := if j.warningSeen && !j.stopped then countRideThrough j.queue else j.queue }

/-- A qualification that stands at settle begins its blank check when the warning ends (R106). -/
def State.beginHeldCheck (k : Site) (s : State) : State :=
  let c := s.chan k
  match c.state, c.snapshot with
  | .qualifying, some sn => if sn.profile.settle ≤ c.qualCounter then s.startCheck k else s
  | _, _ => s

/-- A deassertion: the hold ends, POWER is set, the next write and held qualifications are begun (R150, R106,
R177). -/
def State.unwarned (s : State) : State :=
  allSites.foldl (fun s k => s.beginHeldCheck k)
    ((s.withJs s.js.released).modFlags AlertFlags.setPower).jsStart

/-- PWRWARN_DEASSERT (R150). -/
def execPwrwarnDeassert (s : State) : Host.Outcome State Fault Refusal :=
  .next (if s.pwrwarn then (s.withPwrwarn false).live State.unwarned else s)

/-! ### Resets and supply -/

/-- The RESET line is asserted: it takes effect at once, or waits for the write in progress (R151). -/
def State.resetAsserted (s : State) : State :=
  if s.js.write.isSome then s.withResetWaiting true else s.lineReset

/-- RESET_LINE (R151). -/
def execResetLine (s : State) : Host.Outcome State Fault Refusal := .next (s.live State.resetAsserted)

/-- POWER_ON_RESET (R3). A write that is in progress is cut, as by the loss of supply before it. -/
def execPowerOnReset (s : State) : Host.Outcome State Fault Refusal := .next s.cutWrite.powerOn

/-- SUPPLY_LOSS (R151). The volatile state is lost; the part is dead until POWER_ON_RESET (log 9). -/
def execSupplyLoss (s : State) : Host.Outcome State Fault Refusal :=
  .next (s.cutWrite.powerOn.withPowered false)

end Sys2Proof.Machine
end

