-- ==== Sys2Proof/Machine/LotRequests.lean ====
section
/-!
DEFINITION. The lot and wafer requests of the supervisor (chapter 1) and the lot clock.
-/

namespace Sys2Proof.Machine

/-- OPEN LOT: the checks of R4 and the steps of R5. -/
def openLotAct (lotTag : Word) (first count : BitVec 32) (options : Word) (secret : Key) (s : State) : State :=
  if s.lc.lotState ≠ .empty ∧ s.lc.lotState ≠ .closed then s.supAnswer Code.lotActive.word []
  else if !openLotValid lotTag first count options then s.supAnswer Code.badLot.word []
  else s.beginOpen lotTag first count options secret

/-- OPEN_LOT (R4, R5). -/
def execOpenLot (tag : Byte) (lotTag : Word) (first count : BitVec 32) (options : Word) (secret : Key)
    (s : State) : Host.Outcome State Fault Refusal :=
  .next (s.live fun s => s.supRequest 0x20 tag (openLotAct lotTag first count options secret))

/-- RESUME LOT: the checks and the beginning of R7. -/
def resumeLotAct (lotTag : Word) (secret : Key) (s : State) : State :=
  match s.lc.lotState with
  | .empty | .closed => s.supAnswer Code.noLot.word []
  | .opening | .isOpen | .resuming | .closing => s.supAnswer Code.lotActive.word []
  | .suspended =>
    if lotTag ≠ s.lc.header.lotTag then s.supAnswer Code.badLot.word [] else s.beginResume lotTag secret

/-- RESUME_LOT (R7). -/
def execResumeLot (tag : Byte) (lotTag : Word) (secret : Key) (s : State) : Host.Outcome State Fault Refusal :=
  .next (s.live fun s => s.supRequest 0x21 tag (resumeLotAct lotTag secret))

/-- CLOSE LOT: the checks of R9 and the steps of R10. -/
def closeLotAct (s : State) : State :=
  match s.lc.lotState with
  | .empty | .closed => s.supAnswer Code.noLot.word []
  | .opening | .resuming | .closing => s.supAnswer Code.lotActive.word []
  | .isOpen | .suspended =>
    if s.lc.wafer = .loading ∨ s.lc.wafer = .active then s.supAnswer Code.waferActive.word []
    else if s.js.hasAdvance then s.supAnswer Code.journalBusy.word []
    else s.beginClose

/-- CLOSE_LOT (R9, R10). -/
def execCloseLot (tag : Byte) (s : State) : Host.Outcome State Fault Refusal :=
  .next (s.live fun s => s.supRequest 0x22 tag closeLotAct)

/-- LOAD WAFER: the checks of R14 and the steps of R15. -/
def loadWaferAct (number cols rows : Word) (s : State) : State :=
  if s.lc.lotState ≠ .isOpen then s.supAnswer Code.lotNotOpen.word []
  else if s.lc.wafer = .loading ∨ s.lc.wafer = .active then s.supAnswer Code.waferActive.word []
  else if !loadWaferValid number cols rows then s.supAnswer Code.badWafer.word []
  else s.beginLoad number cols rows

/-- LOAD_WAFER (R14, R15). -/
def execLoadWafer (tag : Byte) (number cols rows : Word) (s : State) : Host.Outcome State Fault Refusal :=
  .next (s.live fun s => s.supRequest 0x23 tag (loadWaferAct number cols rows))

/-- CLOSE WAFER: the checks of R16 and the sweep of R17. -/
def closeWaferAct (s : State) : State :=
  if s.lc.lotState ≠ .isOpen ∧ s.lc.lotState ≠ .suspended then s.supAnswer Code.lotNotOpen.word []
  else if s.lc.wafer ≠ .active then s.supAnswer Code.noWafer.word []
  else if s.inFlight then s.supAnswer Code.sitesActive.word []
  else s.sweepWafer

/-- CLOSE_WAFER (R16, R17). -/
def execCloseWafer (tag : Byte) (s : State) : Host.Outcome State Fault Refusal :=
  .next (s.live fun s => s.supRequest 0x24 tag closeWaferAct)

/-- LOT_CLOCK_TICK (R18). -/
def execLotClockTick (s : State) : Host.Outcome State Fault Refusal :=
  .next (s.live fun s => s.withLc { s.lc with clock := s.lc.clock + 1 })

end Sys2Proof.Machine
end

