-- ==== Sys2Proof/Machine/ProfileRequests.lean ====
section
/-!
DEFINITION. The profile store's requests and CALIBRATE (chapter 7).
-/

namespace Sys2Proof.Machine

/-- A profile is stored: the generation number rises by one and wraps at 65535 (R136). -/
def ProfileStore.store (p : Profile) (x : ProfileStore) : ProfileStore := { profile := p, gen := x.gen + 1 }

/-- A profile request is answered ACCEPTED or CLAMPED with the clamped fields, the stored profile and the new
generation number (R137, R138, R168). -/
def State.answerProfile (bits : Nat) (s : State) : State :=
  s.supAnswer (if bits = 0 then Code.accepted.word else Code.clamped.word)
    ([wordOf bits] ++ s.ps.profile.fields.map wordOf ++ [s.ps.gen])

/-- SET PROFILE: the clamped fields become the supervisor profile (R137). -/
def setProfileAct (p : ProfileWords) (s : State) : State :=
  (s.withPs (s.ps.store (clampProfile p))).answerProfile (clampedBits (sentFields p) (clampProfile p).fields)

/-- SET_PROFILE (R137). -/
def execSetProfile (tag : Byte) (p : ProfileWords) (s : State) : Host.Outcome State Fault Refusal :=
  .next (s.live fun s => s.supRequest 0x25 tag (setProfileAct p))

/-- SET PROFILE DEFAULT: the default profile becomes the supervisor profile (R138). -/
def setProfileDefaultAct (s : State) : State :=
  (s.withPs (s.ps.store defaultProfile)).answerProfile 0

/-- SET_PROFILE_DEFAULT (R138). -/
def execSetProfileDefault (tag : Byte) (s : State) : Host.Outcome State Fault Refusal :=
  .next (s.live fun s => s.supRequest 0x26 tag setProfileDefaultAct)

/-- CALIBRATE acts by the channel state (R133). -/
def calibrateChannel (k : Site) (s : State) : State :=
  match (s.chan k).state with
  | .uncalibrated | .idle => (s.modChan k (Channel.beginCal 0x27)).supTask (.calibrate k)
  | .calibrating => s.supTask (.calibrate k)
  | .waiting | .qualifying | .checking | .adoptWait | .programming | .verifying | .locking =>
    (s.modChan k fun c => { c with calDeferred := true }).supAnswer Code.deferred.word []
  | .halted => s.supAnswer Code.channelHalted.word []

/-- CALIBRATE: channel number and site enable, then the channel (R133). -/
def calibrateAct (channel : Word) (s : State) : State :=
  match siteOf channel with
  | none => s.supAnswer Code.badRange.word []
  | some k =>
    if !(s.site k).enabled then s.supAnswer Code.siteDisabled.word [] else calibrateChannel k s

/-- CALIBRATE (R133). -/
def execCalibrate (tag : Byte) (channel : Word) (s : State) : Host.Outcome State Fault Refusal :=
  .next (s.live fun s => s.supRequest 0x27 tag (calibrateAct channel))

end Sys2Proof.Machine
end

