-- ==== Sys2Proof/Machine/Receive.lean ====
section
/-!
DEFINITION. The receivers (R155): a byte arrives, and a message that its last byte completes is checked (R156)
and taken in the same step, as the request's own command (log 5).
-/

namespace Sys2Proof.Machine

/-- A site request taken from site link `k`. -/
def takeSiteMessage (k : Site) (tag : Byte) (r : SiteReq) (s : State) : Host.Outcome State Fault Refusal :=
  match r with
  | .prepare p => execPrepare k tag p s
  | .release p => execRelease k tag p s
  | .burn p => execBurn k tag p s
  | .abort => execAbort k tag s
  | .status => execStatus k tag s

/-- A supervisor request taken from the supervisor link. -/
def takeSupMessage (tag : Byte) (r : SupReq) (s : State) : Host.Outcome State Fault Refusal :=
  match r with
  | .openLot l f c o x => execOpenLot tag l f c o x s
  | .resumeLot l x => execResumeLot tag l x s
  | .closeLot => execCloseLot tag s
  | .loadWafer n c r => execLoadWafer tag n c r s
  | .closeWafer => execCloseWafer tag s
  | .setProfile p => execSetProfile tag p s
  | .setProfileDefault => execSetProfileDefault tag s
  | .calibrate c => execCalibrate tag c s
  | .enableSite k => execEnableSite tag k s
  | .disableSite k => execDisableSite tag k s
  | .resetSite k => execResetSite tag k s
  | .setWatch e k a v => execSetWatch tag e k a v s
  | .clearWatch e => execClearWatch tag e s
  | .releaseHold k => execReleaseHold tag k s
  | .readRecords f c => execReadRecords tag f c s
  | .readChanged => execReadChanged tag s
  | .readSummary => execReadSummary tag s
  | .readStatus => execReadStatus tag s
  | .readFaults => execReadFaults tag s
  | .clearFaults => execClearFaults tag s
  | .ackAlert f => execAckAlert tag f s
  | .setAlertMask m => execSetAlertMask tag m s

/-- A request whose framing passed every check. -/
def takeMessage (l : Link) (m : Message) (s : State) : Host.Outcome State Fault Refusal :=
  match l with
  | .site k =>
    match decodeSite m with
    | some r => takeSiteMessage k m.tag r s
    | none => .next s
  | .supervisor =>
    match decodeSup m with
    | some r => takeSupMessage m.tag r s
    | none => .next s

/-- A whole message: checked by R156, then taken. -/
def takeWhole (l : Link) (ws : List Word) (s : State) : Host.Outcome State Fault Refusal :=
  match checkFrame l ws with
  | .bad kind tag => .next (s.frameError l kind tag)
  | .good m => takeMessage l m s

/-- The body length word of the bytes collected so far: their third and fourth (R154). -/
def LinkIo.bodyWord (buf : List Byte) : Nat := (joinBytes (buf.getD 2 0) (buf.getD 3 0)).toNat

/-- A byte arrives in AWAIT or COLLECT: the buffer grows, a length word above 1024 moves the receiver to DISCARD, and
each byte restarts the gap timer (R155). -/
def LinkIo.collect (b : Byte) (io : LinkIo) : LinkIo :=
  let buf := io.buf ++ [b]
  { io with
    rx := if 4 ≤ buf.length ∧ 1024 < LinkIo.bodyWord buf then .discard else .collect
    buf := buf
    gap := 0 }

/-- The message in the buffer is complete: its trailer's second byte has arrived (R155). -/
def LinkIo.wholeIn (io : LinkIo) : Bool :=
  decide (4 ≤ io.buf.length) && decide (io.buf.length = 2 * (LinkIo.bodyWord io.buf + 3))

/-- A byte arrives at a receiver (R155). -/
def byteArrived (l : Link) (b : Byte) (s : State) : Host.Outcome State Fault Refusal :=
  match (s.io l).rx with
  | .discard => .next (s.withIo l { s.io l with gap := 0 })
  | .await | .collect =>
    let io := (s.io l).collect b
    if io.rx = .collect ∧ io.wholeIn = true then takeWhole l (wordsOfBytes io.buf) (s.withIo l io.await)
    else .next (s.withIo l io)

/-- BYTE_RECEIVED (R155). -/
def execByteReceived (l : Link) (b : Byte) (s : State) : Host.Outcome State Fault Refusal :=
  if s.powered then byteArrived l b s else .next s

end Sys2Proof.Machine
end

