-- ==== Sys2Proof/Machine/TableAccesses.lean ====
section
/-!
DEFINITION. The accesses that wait at the die record table's port and are taken by commands of their own
(R44): those of a PREPARE and those of a burn channel.
-/

namespace Sys2Proof.Machine

/-- Take site `k`'s lookup access (R47). -/
def State.takeLookup (k : Site) (s : State) : State :=
  match s.takeAccess k false (fun a => a == .lookup) with
  | some (_, s1) => s1.prepareAccess k .lookup
  | none => s

/-- PREPARE_LOOKUP (R47). -/
def execPrepareLookup (k : Site) (s : State) : Host.Outcome State Fault Refusal :=
  .next (s.live (State.takeLookup k))

/-- Take site `k`'s binding access (R49). -/
def State.takeBinding (k : Site) (s : State) : State :=
  match s.takeAccess k false (fun a => a == .binding) with
  | some (_, s1) => s1.prepareAccess k .binding
  | none => s

/-- SERIAL_BINDING (R49, R87). -/
def execSerialBinding (k : Site) (s : State) : Host.Outcome State Fault Refusal :=
  .next (s.live (State.takeBinding k))

/-- Take site `k`'s slot access (R50). -/
def State.takeSlot (k : Site) (s : State) : State :=
  match s.takeAccess k false (fun a => a == .slotTaking) with
  | some (_, s1) => s1.prepareAccess k .slotTaking
  | none => s

/-- SLOT_ACCESS (R50, R81). -/
def execSlotAccess (k : Site) (s : State) : Host.Outcome State Fault Refusal :=
  .next (s.live (State.takeSlot k))

/-- Take site `k`'s clearing of a claim (R52). -/
def State.takeClearing (k : Site) (s : State) : State :=
  match s.takeAccess k false (fun a => match a with | .clearing _ => true | _ => false) with
  | some (.clearing idx, s1) => s1.clearClaim k idx
  | _ => s

/-- CLAIM_CLEARING (R52). -/
def execClaimClearing (k : Site) (s : State) : Host.Outcome State Fault Refusal :=
  .next (s.live (State.takeClearing k))

/-- Take channel `k`'s ending write (R57, R118). -/
def State.takeEndingWrite (k : Site) (s : State) : State :=
  match s.takeAccess k true (fun a => a == .ending) with
  | some (_, s1) => s1.takeEnding k
  | none => s

/-- BURN_ENDING_WRITE (R57). -/
def execBurnEndingWrite (k : Site) (s : State) : Host.Outcome State Fault Refusal :=
  .next (s.live (State.takeEndingWrite k))

/-- Take channel `k`'s adoption access (R58, R113). -/
def State.takeAdoptionAccess (k : Site) (s : State) : State :=
  match s.takeAccess k true (fun a => a == .adoption) with
  | some (_, s1) => s1.takeAdoption k
  | none => s

/-- ADOPTION_ACCESS (R58). -/
def execAdoptionAccess (k : Site) (s : State) : Host.Outcome State Fault Refusal :=
  .next (s.live (State.takeAdoptionAccess k))

/-- Take channel `k`'s serial lookup (R112). -/
def State.takeSerialLookup (k : Site) (s : State) : State :=
  match s.takeAccess k true (fun a => a == .serialLookup) with
  | some (_, s1) => s1.answerLookup k
  | none => s

/-- ADOPTION_SERIAL_LOOKUP (R112). -/
def execAdoptionSerialLookup (k : Site) (s : State) : Host.Outcome State Fault Refusal :=
  .next (s.live (State.takeSerialLookup k))

end Sys2Proof.Machine
end

