-- ==== Sys2Proof/Machine/Dispatch.lean ====
section
/-!
DEFINITION. One arm for each command of the part, in the order of spec/opcode_table.json: a direct call of its meaning.
-/

namespace Sys2Proof.Machine

def exec (i : Instr) (s : State) : Host.Outcome State Fault Refusal :=
  match i with
  | .prepare site tag pos => Sys2Proof.Machine.execPrepare site tag pos s
  | .prepareLookup site => Sys2Proof.Machine.execPrepareLookup site s
  | .serialBinding site => Sys2Proof.Machine.execSerialBinding site s
  | .slotAccess site => Sys2Proof.Machine.execSlotAccess site s
  | .claimClearing site => Sys2Proof.Machine.execClaimClearing site s
  | .release site tag pos => Sys2Proof.Machine.execRelease site tag pos s
  | .burn site tag pos => Sys2Proof.Machine.execBurn site tag pos s
  | .abort site tag => Sys2Proof.Machine.execAbort site tag s
  | .status site tag => Sys2Proof.Machine.execStatus site tag s
  | .frameError link message => Sys2Proof.Machine.execFrameError link message s
  | .gapTimeout link => Sys2Proof.Machine.execGapTimeout link s
  | .replySent link => Sys2Proof.Machine.execReplySent link s
  | .openLot tag lotTag first count options secret => Sys2Proof.Machine.execOpenLot tag lotTag first count options secret s
  | .resumeLot tag lotTag secret => Sys2Proof.Machine.execResumeLot tag lotTag secret s
  | .closeLot tag => Sys2Proof.Machine.execCloseLot tag s
  | .loadWafer tag number cols rows => Sys2Proof.Machine.execLoadWafer tag number cols rows s
  | .closeWafer tag => Sys2Proof.Machine.execCloseWafer tag s
  | .setProfile tag p => Sys2Proof.Machine.execSetProfile tag p s
  | .setProfileDefault tag => Sys2Proof.Machine.execSetProfileDefault tag s
  | .calibrate tag channel => Sys2Proof.Machine.execCalibrate tag channel s
  | .enableSite tag site => Sys2Proof.Machine.execEnableSite tag site s
  | .disableSite tag site => Sys2Proof.Machine.execDisableSite tag site s
  | .resetSite tag site => Sys2Proof.Machine.execResetSite tag site s
  | .resetSiteSweep site => Sys2Proof.Machine.execResetSiteSweep site s
  | .setWatch tag entry kind action value => Sys2Proof.Machine.execSetWatch tag entry kind action value s
  | .clearWatch tag entry => Sys2Proof.Machine.execClearWatch tag entry s
  | .releaseHold tag site => Sys2Proof.Machine.execReleaseHold tag site s
  | .readRecords tag first count => Sys2Proof.Machine.execReadRecords tag first count s
  | .readChanged tag => Sys2Proof.Machine.execReadChanged tag s
  | .recordCopy => Sys2Proof.Machine.execRecordCopy s
  | .readSummary tag => Sys2Proof.Machine.execReadSummary tag s
  | .readStatus tag => Sys2Proof.Machine.execReadStatus tag s
  | .readFaults tag => Sys2Proof.Machine.execReadFaults tag s
  | .clearFaults tag => Sys2Proof.Machine.execClearFaults tag s
  | .ackAlert tag flags => Sys2Proof.Machine.execAckAlert tag flags s
  | .setAlertMask tag mask => Sys2Proof.Machine.execSetAlertMask tag mask s
  | .derivationComplete => Sys2Proof.Machine.execDerivationComplete s
  | .adoptionAccess site => Sys2Proof.Machine.execAdoptionAccess site s
  | .adoptionSerialLookup site => Sys2Proof.Machine.execAdoptionSerialLookup site s
  | .contactCloses site => Sys2Proof.Machine.execContactCloses site s
  | .contactOpens site => Sys2Proof.Machine.execContactOpens site s
  | .qualificationComplete site => Sys2Proof.Machine.execQualificationComplete site s
  | .qualifyTimeout site => Sys2Proof.Machine.execQualifyTimeout site s
  | .blankCheckMeasurement site code => Sys2Proof.Machine.execBlankCheckMeasurement site code s
  | .pulseEnd site inRegulation => Sys2Proof.Machine.execPulseEnd site inRegulation s
  | .fuseMeasurementDone site code => Sys2Proof.Machine.execFuseMeasurementDone site code s
  | .verifyMeasurement site code => Sys2Proof.Machine.execVerifyMeasurement site code s
  | .burnEndingWrite site => Sys2Proof.Machine.execBurnEndingWrite site s
  | .calibrationMeasurement site code => Sys2Proof.Machine.execCalibrationMeasurement site code s
  | .journalTryEnd readBack => Sys2Proof.Machine.execJournalTryEnd readBack s
  | .journalWriteFail => Sys2Proof.Machine.execJournalWriteFail s
  | .pwrwarnAssert => Sys2Proof.Machine.execPwrwarnAssert s
  | .pwrwarnDeassert => Sys2Proof.Machine.execPwrwarnDeassert s
  | .resetLine => Sys2Proof.Machine.execResetLine s
  | .powerOnReset => Sys2Proof.Machine.execPowerOnReset s
  | .supplyLoss => Sys2Proof.Machine.execSupplyLoss s
  | .lotClockTick => Sys2Proof.Machine.execLotClockTick s
  | .byteReceived link byte => Sys2Proof.Machine.execByteReceived link byte s

end Sys2Proof.Machine
end

