-- ==== Sys2Proof/Machine/Tick.lean ====
section
/-!
DEFINITION. The 10 µs tick the part takes while no command waits (log 3): qualification, the beginning of a pulse that is
due, the gap timers and the phases of a journal write. What the tick brings about by itself ends there; the ends of times
are commands.
-/

namespace Sys2Proof.Machine

/-- A channel in QUALIFYING at a tick: the qualify counter rises while the contact reads closed, up to settle, and the
qualify timer runs up to the timeout (R106). -/
def Channel.tickQualify (c : Channel) : Channel :=
  match c.snapshot with
  | some sn =>
    { c with
      qualCounter := if c.contact then min sn.profile.settle (c.qualCounter + 1) else c.qualCounter
      qualTimer := min (sn.profile.timeout * 100) (c.qualTimer + 1) }
  | none => c

/-- The next pulse of the current fuse is due: neither a pulse nor a measurement is in progress and no ending is fixed
(R114, R121). -/
def Channel.pulseDue (c : Channel) : Bool := c.curFuse.isSome && !c.measuring && c.ending.isNone

/-- A channel at a tick: qualification runs, and the pulse that is due begins (R106, R114, log 37). -/
def Channel.tick (c : Channel) : Channel :=
  match c.state with
  | .qualifying => c.tickQualify
  | .programming | .locking => if c.pulseDue then { c with driving := true } else c
  | .uncalibrated | .calibrating | .idle | .waiting | .checking | .adoptWait | .verifying | .halted => c

/-- A receiver at a tick: the gap timer runs in COLLECT and DISCARD (R155). -/
def LinkIo.tick (io : LinkIo) : LinkIo :=
  match io.rx with
  | .await => io
  | .collect | .discard => { io with gap := io.gap + 1 }

/-- A journal write at a tick: the erase takes 35 ticks and the program phase 40 (R146). -/
def JWrite.tick (w : JWrite) : JWrite :=
  match w.phase with
  | .erase => if w.elapsed + 1 < 35 then { w with elapsed := w.elapsed + 1 } else { w with phase := .program, elapsed := 0 }
  | .program => if w.elapsed + 1 < 40 then { w with elapsed := w.elapsed + 1 } else { w with phase := .readBack, elapsed := 0 }
  | .readBack | .finalErase => { w with elapsed := w.elapsed + 1 }

/-- What a phase of a journal write that ends at this tick has done to the word: an erase leaves all ones, and the program
phase programs every bit that is 0 in the value (R146, R147). -/
def Journal.phaseEnds (w : JWrite) (j : Journal) : Journal :=
  match w.phase with
  | .erase | .finalErase => if w.elapsed + 1 < 35 then j else j.setWord w.entry.word 0xFFFF
  | .program => if w.elapsed + 1 < 40 then j else j.setWord w.entry.word (j.word w.entry.word &&& w.value)
  | .readBack => j

/-- The journal store at a tick. -/
def Journal.tick (j : Journal) : Journal :=
  match j.write with
  | none => j
  | some w => { j.phaseEnds w with write := some w.tick }

/-- The part at a tick. -/
def State.tick (s : State) : State :=
  { s with
    chans := s.chans.map Channel.tick
    sites := s.sites.map fun sl => { sl with io := sl.io.tick }
    sup := { s.sup with io := s.sup.io.tick }
    js := s.js.tick
    now := s.now + 1 }

end Sys2Proof.Machine
end

