-- ==== Sys2Proof/Safety.lean ====
section
/-!
DEFINITION. What the claims speak of: when a request is free to be taken, and the invariants of the part.
-/

namespace Sys2Proof.Machine

/-! ### When a request is taken -/

/-- Site link `k` passes a request on: the part is powered and in RUN, a reply place is free and the site is
ENABLED (R157, R158 steps 1 and 2). -/
structure State.SiteReady (k : Site) (s : State) : Prop where
  powered : s.powered = true
  room : s.full (.site k) = false
  running : s.fu.partStopped = false
  enabled : (s.site k).enabled = true

/-- The supervisor link passes a request to its lane: the part is powered and in RUN, a reply place is free and
the lane is free (R157, R169). -/
structure State.SupReady (s : State) : Prop where
  powered : s.powered = true
  room : s.full .supervisor = false
  running : s.fu.partStopped = false
  free : s.sup.lane = none

/-- Site work at a position passes the lot gate, the wafer gate and the grid check (R1, R13, R45). -/
structure State.Admits (p : Pos) (s : State) : Prop where
  lot : s.lc.lotState = .isOpen
  wafer : s.lc.wafer = .active
  column : p.col.toNat < s.lc.cols
  row : p.row.toNat < s.lc.rows

/-! ### The die record table -/

/-- Records in a state, by counting them. -/
def Table.countOf (st : RecState) (d : Table) : Nat := d.records.countP fun r => r.state == st

/-- The entries of a position map stand in rising order of their numbers. -/
def mapSorted (m : List (Nat × Nat)) : Prop := m.Pairwise fun a b => a.1 < b.1

/-- The table agrees with itself: its counters are the counts of its records (R62), the position map is in its one
form and names every record at its position and nothing else (R37), and it holds no more than 8192 records. -/
structure Table.Consistent (d : Table) : Prop where
  states : ∀ st, d.counts.get st = d.countOf st
  exhausted : d.counts.exhausted = d.records.countP fun r => r.exhausted
  recovered : d.counts.recovered = d.records.countP fun r => r.recovered
  sorted : mapSorted d.posMap
  mapped : ∀ e ∈ d.posMap, ∃ r, d.records[e.2]? = some r ∧ posEntry r.pos = e.1
  covered : ∀ i r, d.records[i]? = some r → (posEntry r.pos, i) ∈ d.posMap
  capacity : d.records.length ≤ Table.capacity

/-! ### The lot secret -/

/-- The lot states in which a secret may be present (R12). -/
def LotState.mayHoldSecret : LotState → Bool
  | .opening | .isOpen | .resuming | .closing => true
  | .empty | .suspended | .closed => false

/-- The lot secret is present only while the lot state is OPENING, OPEN, RESUMING or CLOSING (R12). -/
def LotController.secretHeld (lc : LotController) : Prop :=
  lc.secret.isSome = true → lc.lotState.mayHoldSecret = true

/-! ### Profiles, offsets and pulses -/

/-- Every field of a profile lies in its range (R136). -/
structure Profile.InRange (p : Profile) : Prop where
  w0 : 2 ≤ p.w0 ∧ p.w0 ≤ 128
  wmax : p.w0 ≤ p.wmax ∧ p.wmax ≤ 128
  g : 8 ≤ p.g ∧ p.g ≤ 16
  pmax : 1 ≤ p.pmax ∧ p.pmax ≤ 8
  tr : 256 ≤ p.tr ∧ p.tr ≤ 960
  tp : p.tr + 32 ≤ p.tp ∧ p.tp ≤ 1000
  settle : 1 ≤ p.settle ∧ p.settle ≤ 255
  timeout : 1 ≤ p.timeout ∧ p.timeout ≤ 200

/-- A channel's snapshot is in range, its offset lies in −7 to +7, and while it pulses a fuse every width lies between
the snapshot's W0 and Wmax and no fuse has had more than Pmax pulses (R101, R114, R117, R128). -/
structure Channel.PulsesSafe (c : Channel) : Prop where
  snapshot : ∀ sn, c.snapshot = some sn → sn.profile.InRange
  offset : -7 ≤ c.offset ∧ c.offset ≤ 7
  width : ∀ sn, c.snapshot = some sn → c.pulsing = true →
    sn.profile.w0 ≤ c.curWidth ∧ c.curWidth ≤ sn.profile.wmax
  pulses : ∀ sn, c.snapshot = some sn → c.pulsing = true →
    if c.measuring then c.curPulses ≤ sn.profile.pmax else c.curPulses < sn.profile.pmax

/-- The supervisor profile is in range and every channel pulses safely. -/
structure State.PulsesSafe (s : State) : Prop where
  offered : s.ps.profile.InRange
  channels : ∀ k, (s.chan k).PulsesSafe

/-! ### Burn endings -/

/-- `c'` is `c` after a burn on its slot `l`, which holds `x`, ended with `e` after the blank check began: the slot is
EMPTY, the read whole or in part, the snapshot and the current fuse with the remaining set are gone, the ending write
waits, and the channel is HALTED by a supply fault, or takes up a deferred calibration, or is IDLE (R75, R118, R120, R123,
R134). -/
def Channel.EndedBy (l : SlotId) (x : Taking) (e : Ending) (halt : Bool) (c c' : Channel) : Prop :=
  c' = { c.setSlot l { c.slot l with state := .empty, taking := none, image := none } with
    state := if halt then .halted else if c.calDeferred then .calibrating else .idle
    calDeferred := false
    calRun := if !halt && c.calDeferred then some { codes := [], kind := 0x03 } else c.calRun
    readImage := none
    lockRead := none
    readSoFar := 0
    measured := 0
    snapshot := none
    curFuse := none
    remaining := 0
    burning := none
    ending := some e
    lookupWait := false
    driving := false
    measuring := false
    contactLost := c.contactLost || e == .contactLost
    endWrite := some { ending := e, taking := x, readSerial := readSerialOf (c.readImage.getD 0),
                       lockRead := c.lockRead.getD false } }

/-- What an ending leaves at the port and in the derivation unit for channel `k`: its serial lookup is gone, its
access is placed, and its adoption entry is withdrawn (R95, R112, R118). -/
def State.EndsAt (k : Site) (a : Access) (s t : State) : Prop :=
  t.port = s.port.filter (fun e => !(e.site == k && e.access == .serialLookup)) ++
    [{ access := a, site := k, moment := s.now }] ∧
  t.du = { s.du with
    queue := s.du.queue.filter fun e => !e.isAdopt k
    current := s.du.current.map fun d => if d.entry.isAdopt k then { d with discard := true } else d }

/-- `c'` is `c` after a burn on its slot `l` ended with `e` before the blank check began: a BURNING slot is STAGED again
and a DERIVING one stays so, the snapshot is gone, and the channel takes up a deferred calibration, or is IDLE (R83,
R105, R107, R118, R134). -/
def Channel.LeftBy (l : SlotId) (e : Ending) (c c' : Channel) : Prop :=
  c' = { c.setSlot l { c.slot l with
      state := if (c.slot l).state = .burning then .staged else (c.slot l).state } with
    state := if c.calDeferred then .calibrating else .idle
    calDeferred := false
    calRun := if c.calDeferred then some { codes := [], kind := 0x03 } else c.calRun
    readImage := none
    lockRead := none
    readSoFar := 0
    measured := 0
    snapshot := none
    curFuse := none
    remaining := 0
    burning := none
    ending := some e
    lookupWait := false
    driving := false
    measuring := false }

/-- A burn past its blank-check start that an interruption ends at once: in ADOPT WAIT, waiting for the serial lookup, or
between a measurement and the next pulse (R112, R121, R122). -/
def Channel.endsAtOnce (c : Channel) : Bool :=
  c.state == .adoptWait || (c.state == .checking && c.lookupWait) || (c.pulsing && !c.driving && !c.measuring)

/-- A burn past its blank-check start whose pulse or measurement in progress runs out under an interruption (R121,
R122). -/
def Channel.runsOut (c : Channel) : Bool :=
  c.state == .verifying || (c.state == .checking && !c.lookupWait) || (c.pulsing && (c.driving || c.measuring))

/-- The burn on slot `l`, which holds `x`, runs out under the ending `e` that an ABORT, a RESET SITE, a power warning or
part STOP has fixed (R121, R122, R124, R125, R126). -/
structure Channel.FixedBy (l : SlotId) (x : Taking) (e : Ending) (c : Channel) : Prop where
  fixed : c.ending = some e
  interrupts : e = .aborted ∨ e = .powerWarning ∨ e = .partStopped
  slot : c.burning = some l
  taking : (c.slot l).taking = some x

/-- The fault unit once a burn at a position has ended with an ending that an interruption had fixed: fault 61 for POWER
WARNING, none for ABORTED and PART STOPPED (R118, R122). -/
def FaultUnit.fixedEnding (k : Site) (p : Pos) (stamp : BitVec 32) (e : Ending) (u : FaultUnit) : FaultUnit :=
  if e = .powerWarning then u.take ⟨61, some k, some p, 0x03, stamp⟩ else u

/-! ### What comes next -/

/-- The derivation unit that has become free, or is free, with the queue `q`: the entry that is chosen is in progress with
the secret as it stands (R91, R93). -/
def State.nextDerivation (q : List DEntry) (s : State) : DerivUnit :=
  match chooseEntry s.du.pointer q with
  | some (e, rest, p) =>
    { queue := rest
      current := some { entry := e, secret := s.lc.secret.getD Config.absentSecret, discard := false }
      pointer := p }
  | none => { queue := q, current := none, pointer := s.du.pointer }

/-- The derivation unit once `e` is placed: it waits behind a derivation in progress, and on an idle unit the choice is
made (R92, R93). -/
def State.placedEntry (e : DEntry) (s : State) : DerivUnit :=
  if s.du.current = none then s.nextDerivation (s.du.queue ++ [e]) else { s.du with queue := s.du.queue ++ [e] }

/-- The journal store `j` with its next write begun where one may: a write waits, none is in progress, and the journal is
neither held nor stopped (R143, R145). -/
def Journal.begun (mark : Nat) (j : Journal) : Journal :=
  match j.queue with
  | [] => j
  | e :: rest =>
    if j.write = none ∧ j.held = false ∧ j.stopped = false then
      { j with
        queue := rest
        write := some { entry := e, value := e.value mark j.rideMirror, second := false, phase := .erase, elapsed := 0 } }
    else j

/-! ### Staging slots -/

/-- A slot holds a record in DERIVING, STAGED and BURNING and in no other state, and an image in STAGED and BURNING
and in no other (R80, R71). -/
structure Slot.Holds (x : Slot) : Prop where
  taking : x.taking.isSome = true ↔ x.state ≠ .empty
  image : x.image.isSome = true ↔ x.state = .staged ∨ x.state = .burning

/-- Every slot of the part holds what its state says. -/
def State.SlotsHold (s : State) : Prop := ∀ k, (s.chan k).slotA.Holds ∧ (s.chan k).slotB.Holds

end Sys2Proof.Machine
end

