-- ==== Sys2Proof/Certificates/Slice0/Obligations.lean ====
section
/-!
DEFINITION. The statements for the provers, each a `Prop` about the model; OBLIGATIONS.json lists them.
In a result, `{ t with … } = s` says that everything not named is as it was.
-/

open Sys2Proof Sys2Proof.Machine

/-! ### The machine as a whole -/

/-- A step takes the command at the front of the queue and runs it on the state with the queue's rest; on an empty
queue a powered part takes a tick and an unpowered one rests (the model's choices: logs 1, 3 and 9). -/
def Obligations.StepRunsCommandAtFront : Prop :=
  (∀ (c : Instr) (s : State) (rest : List Instr), s.pending = c :: rest → step s = exec c (s.withPending rest)) ∧
  (∀ s : State, s.pending = [] → s.powered = true → step s = .next s.tick) ∧
  ∀ s : State, s.pending = [] → s.powered = false → step s = .next s

/-- A tick counts a closed contact in QUALIFYING up to settle, runs the qualify timer, begins the pulse that is due on a
fuse, runs the gap timers and the phase of a journal write, which stands 35 ticks in its erase and 40 in its program
phase, and changes nothing else. At its end an erase, the final one too, has set the word to all ones, and the program phase
has programmed every bit that is 0 in the value (R106, R114, R146, R147, R155; the tick is the model's choice, logs 3, 28 and
37); the lot clock counts one, modulo 2^32, in every state of a powered part (R18). -/
def Obligations.TimePasses : Prop :=
  (∀ (s : State), s.pending = [] → s.powered = true →
     ∃ t, step s = .next t ∧
       (∀ k sn, (s.chan k).state = .qualifying → (s.chan k).snapshot = some sn →
         t.chan k = { s.chan k with
           qualCounter := if (s.chan k).contact then min sn.profile.settle ((s.chan k).qualCounter + 1)
             else (s.chan k).qualCounter
           qualTimer := min (sn.profile.timeout * 100) ((s.chan k).qualTimer + 1) }) ∧
       (∀ k, (s.chan k).state = .programming ∨ (s.chan k).state = .locking →
         t.chan k = { s.chan k with
           driving := (s.chan k).driving ||
             ((s.chan k).curFuse.isSome && !(s.chan k).measuring && (s.chan k).ending.isNone) }) ∧
       (∀ k, (s.chan k).state ∉ [ChanState.qualifying, .programming, .locking] ∨
         (s.chan k).state = .qualifying ∧ (s.chan k).snapshot = none → t.chan k = s.chan k) ∧
       (∀ l, t.io l = if (s.io l).rx = .await then s.io l else { s.io l with gap := (s.io l).gap + 1 }) ∧
       t.now = s.now + 1 ∧ (∀ k, { t.site k with io := (s.site k).io } = s.site k) ∧
       t.js.write = s.js.write.map JWrite.tick ∧ { t.js with words := s.js.words, write := s.js.write } = s.js ∧
       (∀ n, t.js.word n = match s.js.write with
         | none => s.js.word n
         | some w =>
           if n ≠ w.entry.word ∨ 32 ≤ n then s.js.word n
           else if (w.phase = .erase ∨ w.phase = .finalErase) ∧ 34 ≤ w.elapsed then 65535
           else if w.phase = .program ∧ 39 ≤ w.elapsed then s.js.word n &&& w.value
           else s.js.word n) ∧
       t.sup.lane = s.sup.lane ∧
       { t with chans := s.chans, sites := s.sites, sup := s.sup, js := s.js, now := s.now } = s) ∧
  (∀ w : JWrite, w.tick =
     if w.phase = .erase ∧ 34 ≤ w.elapsed then { w with phase := .program, elapsed := 0 }
     else if w.phase = .program ∧ 39 ≤ w.elapsed then { w with phase := .readBack, elapsed := 0 }
     else { w with elapsed := w.elapsed + 1 }) ∧
  ∀ s : State, s.powered = true →
    exec .lotClockTick s = .next { s with lc := { s.lc with clock := s.lc.clock + 1 } }

/-- The part as delivered, after power-on reset: the values the reset tables give, with the journal of zeros of delivery;
that PWRWARN is then deasserted, and the journal therefore not held, is the model's choice, log 10. -/
def Obligations.ResetLeavesTheTables : Prop :=
  State.reset.lc.lotState = .empty ∧ State.reset.lc.secret = none ∧ State.reset.lc.wafer = .none ∧
  State.reset.lc.clock = 0 ∧ State.reset.lc.waferNumber = 0 ∧ State.reset.lc.cols = 0 ∧ State.reset.lc.rows = 0 ∧
  State.reset.lc.header = { lotTag := 0, first := 0, count := 0, options := 0, fp1 := 0, fp2 := 0 } ∧
  State.reset.lc.lastWafer = 0 ∧ State.reset.pwrwarn = false ∧
  State.reset.sa = { mark := 0, outstanding := 0, exhausted := false, drawn := 0,
                     blocks := Four.all { current := none, next := .absent } } ∧
  State.reset.drt.records = [] ∧ (∀ p, State.reset.drt.lookup p = none) ∧
  State.reset.drt.marks = Vector.replicate 128 false ∧ (∀ st, State.reset.drt.counts.get st = 0) ∧
  State.reset.du = { queue := [], current := none, pointer := 0 } ∧
  (∀ k, (State.reset.chan k).state = .uncalibrated ∧ (State.reset.chan k).slotA.state = .empty ∧
    (State.reset.chan k).slotB.state = .empty ∧ (State.reset.chan k).offset = 0 ∧
    (State.reset.chan k).degraded = false ∧ (State.reset.chan k).calResult = none ∧
    (State.reset.chan k).contactLost = false ∧ (State.reset.chan k).snapshot = none ∧
    (State.reset.chan k).burning = none ∧ (State.reset.chan k).cls = none ∧ (State.reset.chan k).attPulses = 0 ∧
    (State.reset.chan k).attBits = 0 ∧ (State.reset.chan k).bounce = 0 ∧ (State.reset.chan k).calDeferred = false ∧
    (State.reset.chan k).calReadings = none ∧ (State.reset.chan k).calRun = none ∧
    (State.reset.chan k).qualCounter = 0 ∧ (State.reset.chan k).qualTimer = 0 ∧
    (State.reset.chan k).readImage = none ∧ (State.reset.chan k).lockRead = none ∧ (State.reset.chan k).curFuse = none ∧
    (State.reset.chan k).endWrite = none ∧ (∀ l, ((State.reset.chan k).slot l).discardPending = false ∧
      ((State.reset.chan k).slot l).taking = none ∧ ((State.reset.chan k).slot l).image = none)) ∧
  State.reset.ps = { profile := { w0 := 16, wmax := 100, g := 12, pmax := 6, tr := 600, tp := 700, settle := 20,
                                  timeout := 50 }, gen := 0 } ∧
  (∀ n, State.reset.js.word n = 0) ∧ State.reset.js.queue = [] ∧ State.reset.js.write = none ∧
  State.reset.js.stopped = false ∧ State.reset.js.rideMirror = 0 ∧ State.reset.js.held = false ∧
  State.reset.js.warningSeen = false ∧
  (∀ e, State.reset.wt.get e = { content := .none, hold := false, hits := 0 }) ∧
  State.reset.fu.partStopped = false ∧ State.reset.fu.latch = false ∧ State.reset.fu.first = none ∧
  State.reset.fu.last = none ∧ State.reset.fu.count = 0 ∧ State.reset.fu.alertLevel = false ∧
  State.reset.fu.resetLineCause = false ∧
  State.reset.fu.flags = { fault := false, watch := false, exhausted := false, power := false } ∧
  State.reset.fu.mask = { fault := true, watch := true, exhausted := true, power := true } ∧
  (∀ k, (State.reset.site k).enabled = true ∧ (State.reset.site k).cmd = none ∧ (State.reset.site k).burn = none ∧
    (State.reset.site k).aborts = []) ∧
  State.reset.sup.lane = none ∧ (∀ l, (State.reset.io l).rx = .await ∧ (State.reset.io l).replies = [] ∧
    (State.reset.io l).buf = [] ∧ (State.reset.io l).gap = 0) ∧
  State.reset.port = [] ∧ State.reset.lc.load = none ∧ State.reset.resetWaiting = false ∧ State.reset.pending = []

/-- The invariants hold right after power-on reset. -/
def Obligations.InvariantsHoldAtReset : Prop :=
  State.reset.drt.Consistent ∧ State.reset.lc.secretHeld ∧ State.reset.PulsesSafe ∧ State.reset.SlotsHold

/-- Every step keeps the die record table in agreement with itself (R37, R62). -/
def Obligations.TableStaysConsistent : Prop :=
  ∀ s t : State, s.drt.Consistent → step s = .next t → t.drt.Consistent

/-- Every step keeps the lot secret to the lot states that may hold it (R12). -/
def Obligations.SecretOnlyUnderALot : Prop :=
  ∀ s t : State, s.lc.secretHeld → step s = .next t → t.lc.secretHeld

/-- Every step keeps profiles, offsets, pulse widths and pulse counts in their ranges (R114, R128, R136). -/
def Obligations.PulsesStayWithinProfile : Prop :=
  ∀ s t : State, s.PulsesSafe → step s = .next t → t.PulsesSafe

/-- Every step keeps each slot holding what its state says (R71, R80). -/
def Obligations.SlotsKeepTheirFields : Prop :=
  ∀ s t : State, s.SlotsHold → step s = .next t → t.SlotsHold

/-! ### Words on the links -/

/-- Every site request is read back from the bytes it is sent as (R154, R156). -/
def Obligations.SiteMessagesRoundTrip : Prop :=
  ∀ (k : Site) (tag : Byte) (r : SiteReq),
    wordsOfBytes (bytesOf (r.message tag).words) = (r.message tag).words ∧
    checkFrame (.site k) (r.message tag).words = .good (r.message tag) ∧
    decodeSite (r.message tag) = some r

/-- Every supervisor request is read back from the bytes it is sent as (R154, R156). -/
def Obligations.SupervisorMessagesRoundTrip : Prop :=
  ∀ (tag : Byte) (r : SupReq),
    wordsOfBytes (bytesOf (r.message tag).words) = (r.message tag).words ∧
    checkFrame .supervisor (r.message tag).words = .good (r.message tag) ∧
    decodeSup (r.message tag) = some r

/-- The folded sum is 0 only for words that are all 0; otherwise it is the number from 1 to 65535 with the whole sum's
remainder on division by 65535; and two folds form it for every word set the part sums (R72). -/
def Obligations.FoldedSumIsTheResidue : Prop :=
  ∀ ws : List Word,
    (foldedSum ws = 0 ↔ ∀ w ∈ ws, w = 0) ∧ foldedSum ws ≤ 65535 ∧
    foldedSum ws % 65535 = (ws.map BitVec.toNat).sum % 65535 ∧
    (ws.length ≤ 1027 → foldedSum ws = foldCarry 2 (ws.map BitVec.toNat).sum)

/-- Words are valid exactly when their folded sum is 65535; words that end with the check word formed over the others,
65535 less their folded sum, are valid, and so is every assembled image (R74). -/
def Obligations.FormedCheckWordIsValid : Prop :=
  (∀ ws : List Word, validWords ws = true ↔ foldedSum ws = 65535) ∧
  (∀ ws : List Word, (checkWord ws).toNat = 65535 - foldedSum ws ∧ foldedSum (ws ++ [checkWord ws]) = 65535 ∧
    validWords (ws ++ [checkWord ws]) = true) ∧
  ∀ (n : Serial) (tag : Word) (p : Pos) (o : Word) (key : Key), imageValid (assembleImage n tag p o key) = true

/-- An assembled image reads invalid when one of its fuses reads the other way, and reads its serial, lot tag, position,
options and key back when none does (R66, R74, R75). -/
def Obligations.OneWrongFuseIsFound : Prop :=
  ∀ (n : Serial) (tag : Word) (p : Pos) (o : Word) (key : Key) (f : Nat), f < 352 →
    imageValid (assembleImage n tag p o key ^^^ fuseBit f) = false ∧
    readSerialOf (assembleImage n tag p o key) = n ∧ readLotTag (assembleImage n tag p o key) = tag ∧
    readPos (assembleImage n tag p o key) = p ∧ imageWord (assembleImage n tag p o key) 4 = o ∧
    readKey (assembleImage n tag p o key) = key

/-! ### Derivation order, draws and faults -/

/-- The next derivation is the oldest entry of the first site, from the pointer on, that has one, and the pointer
passes to the site after it; with no site entry it is the fingerprint entry and the pointer stays. An entry placed on a
busy unit waits at the tail; on an idle one the choice is made at once and the chosen entry is in progress with the secret
as it stands (R91, R92, R93). -/
def Obligations.DerivationsAreServedRoundRobin : Prop :=
  (∀ (ptr : Site) (q : List DEntry),
    (∀ (i : Fin 4) (before after : List DEntry) (e : DEntry),
      (∀ j : Fin 4, j < i → ∀ x ∈ q, x.site ≠ some (ptr + j)) →
      q = before ++ e :: after → e.site = some (ptr + i) → (∀ x ∈ before, x.site ≠ some (ptr + i)) →
      chooseEntry ptr q = some (e, before ++ after, ptr + i + 1)) ∧
    (∀ (e : DEntry) (after : List DEntry), q = e :: after → (∀ x ∈ q, x.site = none) →
      chooseEntry ptr q = some (e, after, ptr)) ∧
    (q = [] → chooseEntry ptr q = none)) ∧
  ∀ (x : DEntry) (s : State),
    (∀ d, s.du.current = some d → s.duPlace x = { s with du := { s.du with queue := s.du.queue ++ [x] } }) ∧
    ∀ (e : DEntry) (rest : List DEntry) (p : Site) (secret : Key), s.du.current = none → s.lc.secret = some secret →
      chooseEntry s.du.pointer (s.du.queue ++ [x]) = some (e, rest, p) →
      s.duPlace x = { s with du := {
        queue := rest, current := some { entry := e, secret := secret, discard := false }, pointer := p } }

/-- A draw takes the next serial of the site's current block, or promotes its READY block and takes the first of it; the
serial is counted, and with four or fewer left, no next block, the exhausted flag clear and no PWRWARN a prefetch comes
due, which queues an advance if the window allows one and else sets the exhausted flag and alert. With nothing to draw it
waits for a PENDING block or for the advance it queues, or is refused. Other sites' blocks, the mark and every other part
stay (R22, R24, R26, R28, R35). -/
def Obligations.DrawFollowsTheBlocks : Prop :=
  ∀ (k : Site) (s : State) (b : SiteBlocks), s.sa.blocks.get k = b →
    (∀ (c : Block) (n : NextBlock),
      (b.current = some c ∧ c.next < c.stop ∧ n = b.next) ∨
        ((b.current = none ∨ ∃ x, b.current = some x ∧ x.stop ≤ x.next) ∧ b.next = .ready c.next c.stop ∧ n = .absent) →
      ∃ t, s.draw k = (t, .drawn (BitVec.ofNat 32 c.next)) ∧ t.sa.drawn = s.sa.drawn + 1 ∧ t.sa.mark = s.sa.mark ∧
        (t.sa.blocks.get k).current = some { c with next := c.next + 1 } ∧
        (∀ j, j ≠ k → t.sa.blocks.get j = s.sa.blocks.get j) ∧
        (n = .absent ∧ c.stop ≤ c.next + 5 ∧ s.sa.exhausted = false ∧ s.pwrwarn = false →
          (16 * (s.sa.mark + s.sa.outstanding) < s.lc.header.count.toNat →
            (t.sa.blocks.get k).next = .pending ∧ t.sa.outstanding = s.sa.outstanding + 1 ∧ t.sa.exhausted = false ∧
            t.fu = s.fu ∧ t.js = Journal.begun s.sa.mark { s.js with queue := s.js.queue ++ [.advance k] }) ∧
          (s.lc.header.count.toNat ≤ 16 * (s.sa.mark + s.sa.outstanding) →
            (t.sa.blocks.get k).next = .absent ∧ t.sa.outstanding = s.sa.outstanding ∧ t.sa.exhausted = true ∧
            t.fu = { s.fu with flags := { s.fu.flags with exhausted := true } } ∧ t.js = s.js)) ∧
        (¬(n = .absent ∧ c.stop ≤ c.next + 5 ∧ s.sa.exhausted = false ∧ s.pwrwarn = false) →
          (t.sa.blocks.get k).next = n ∧ t.sa.outstanding = s.sa.outstanding ∧ t.sa.exhausted = s.sa.exhausted ∧
          t.fu = s.fu ∧ t.js = s.js) ∧
        { t with sa := s.sa, fu := s.fu, js := s.js } = s) ∧
    ((b.current = none ∨ ∃ c, b.current = some c ∧ c.stop ≤ c.next) →
      (b.next = .pending → s.draw k = (s, .waits)) ∧
      (b.next = .absent → s.sa.exhausted = true → s.draw k = (s, .exhausted)) ∧
      (b.next = .absent → s.sa.exhausted = false → 16 * (s.sa.mark + s.sa.outstanding) < s.lc.header.count.toNat →
        s.draw k = ({ s with
          sa := { s.sa with
            outstanding := s.sa.outstanding + 1, blocks := s.sa.blocks.set k { b with next := .pending } }
          js := Journal.begun s.sa.mark { s.js with queue := s.js.queue ++ [.advance k] } }, .waits)) ∧
      (b.next = .absent → s.sa.exhausted = false → s.lc.header.count.toNat ≤ 16 * (s.sa.mark + s.sa.outstanding) →
        s.draw k = ({ s with
          sa := { s.sa with exhausted := true }
          fu := { s.fu with flags := { s.fu.flags with exhausted := true } } }, .exhausted)))

/-- A reported fault: the first record of a clear latch, the last record, the count and the FAULT flag, and nothing else: part
state, alert mask and reset cause stay (R183). -/
def Obligations.FaultsAreRecorded : Prop :=
  ∀ (code : Nat) (site : Option Site) (pos : Option Pos) (kind : Byte) (s t : State),
    t = s.report code site pos kind →
    t.fu.latch = true ∧ t.fu.last = some ⟨code, site, pos, kind, s.lc.clock⟩ ∧
    t.fu.first = (if s.fu.latch then s.fu.first else some ⟨code, site, pos, kind, s.lc.clock⟩) ∧
    t.fu.count = min 65535 (s.fu.count + 1) ∧ t.fu.flags = { s.fu.flags with fault := true } ∧
    t.fu.partStopped = s.fu.partStopped ∧ t.fu.mask = s.fu.mask ∧ t.fu.resetLineCause = s.fu.resetLineCause ∧
    { t with fu := s.fu } = s

/-! ### Site requests -/

/-- A PREPARE that passes its checks takes the command lane: every watch entry on its position records a hit, and it is
held if one of them has the action HOLD; otherwise its lookup access waits at the port (R46, R86). -/
def Obligations.PrepareIsTaken : Prop :=
  ∀ (k : Site) (tag : Byte) (p : Pos) (s : State), s.SiteReady k → s.Admits p → (s.site k).cmd = none →
    ∃ t, exec (.prepare k tag p) s = .next t ∧
      t.site k = { s.site k with
        cmd := some ⟨tag, p, if ∃ e, (s.wt.get e).content = .position p ∧ (s.wt.get e).hold = true
          then .heldPosition else .lookup, false⟩ } ∧
      (∀ j, j ≠ k → t.site j = s.site j) ∧
      t.port = (if ∃ e, (s.wt.get e).content = .position p ∧ (s.wt.get e).hold = true then s.port
        else s.port ++ [{ access := .lookup, site := k, moment := s.now }]) ∧
      (∀ e, t.wt.get e = if (s.wt.get e).content = .position p
        then { s.wt.get e with hits := min 255 ((s.wt.get e).hits + 1) } else s.wt.get e) ∧
      t.fu = (if ∃ e, (s.wt.get e).content = .position p
        then { s.fu with flags := { s.fu.flags with watch := true } } else s.fu) ∧
      { t with sites := s.sites, port := s.port, wt := s.wt, fu := s.fu } = s

/-- A site request that meets a full reply queue is dropped with fault 11; else part STOP, a disabled site, a busy lane
and the gates refuse it in that order with the code alone, and nothing else changes. So it is with a supervisor request:
a full reply queue drops it with fault 11, part STOP answers it PART STOPPED unless its kind is taken in STOP, and a busy
lane answers it BUSY unless it is READ STATUS (R157, R158, R169, R1, R13, R45). -/
def Obligations.RequestsAreRefusedInOrder : Prop :=
  (∀ (r : SupReq) (tag kind : Byte) (s : State), s.powered = true → kind = (r.message tag).kind →
    (s.full .supervisor = true → exec (r.instr tag) s = .next (s.report 11 none none kind)) ∧
    (s.full .supervisor = false → s.fu.partStopped = true →
      kind ∉ [(0x2E : Byte), 0x2F, 0x30, 0x31, 0x32, 0x33, 0x34] →
      exec (r.instr tag) s = .next (s.reply .supervisor ⟨kind, tag, [18]⟩)) ∧
    (s.full .supervisor = false → s.sup.lane ≠ none → kind ≠ 0x31 →
      s.fu.partStopped = false ∨ kind ∈ [(0x2E : Byte), 0x2F, 0x30, 0x32, 0x33, 0x34] →
      exec (r.instr tag) s = .next (s.reply .supervisor ⟨kind, tag, [16]⟩))) ∧
  ∀ (k : Site) (tag : Byte) (p : Pos) (s : State), s.powered = true →
    (s.full (.site k) = true →
      exec (.prepare k tag p) s = .next (s.report 11 (some k) none 0x01) ∧
      exec (.release k tag p) s = .next (s.report 11 (some k) none 0x02) ∧
      exec (.burn k tag p) s = .next (s.report 11 (some k) none 0x03) ∧
      exec (.abort k tag) s = .next (s.report 11 (some k) none 0x04) ∧
      exec (.status k tag) s = .next (s.report 11 (some k) none 0x05)) ∧
    (s.full (.site k) = false → s.fu.partStopped = true →
      exec (.prepare k tag p) s = .next (s.reply (.site k) ⟨0x01, tag, [18]⟩) ∧
      exec (.release k tag p) s = .next (s.reply (.site k) ⟨0x02, tag, [18]⟩) ∧
      exec (.burn k tag p) s = .next (s.reply (.site k) ⟨0x03, tag, [18]⟩) ∧
      exec (.abort k tag) s = .next (s.reply (.site k) ⟨0x04, tag, [18]⟩)) ∧
    (s.full (.site k) = false → s.fu.partStopped = false → (s.site k).enabled = false →
      exec (.prepare k tag p) s = .next (s.reply (.site k) ⟨0x01, tag, [19]⟩) ∧
      exec (.release k tag p) s = .next (s.reply (.site k) ⟨0x02, tag, [19]⟩) ∧
      exec (.burn k tag p) s = .next (s.reply (.site k) ⟨0x03, tag, [19]⟩) ∧
      exec (.abort k tag) s = .next (s.reply (.site k) ⟨0x04, tag, [19]⟩)) ∧
    (s.SiteReady k →
      ((s.site k).cmd ≠ none → exec (.prepare k tag p) s = .next (s.reply (.site k) ⟨0x01, tag, [16]⟩) ∧
        exec (.release k tag p) s = .next (s.reply (.site k) ⟨0x02, tag, [16]⟩)) ∧
      ((s.site k).burn ≠ none → exec (.burn k tag p) s = .next (s.reply (.site k) ⟨0x03, tag, [16]⟩)) ∧
      ((s.site k).cmd = none → (s.site k).burn = none →
        (s.lc.lotState ≠ .isOpen →
          exec (.prepare k tag p) s = .next (s.reply (.site k) ⟨0x01, tag, [32]⟩) ∧
          exec (.release k tag p) s = .next (s.reply (.site k) ⟨0x02, tag, [32]⟩) ∧
          exec (.burn k tag p) s = .next (s.reply (.site k) ⟨0x03, tag, [32]⟩)) ∧
        (s.lc.lotState = .isOpen → s.lc.wafer ≠ .active →
          exec (.prepare k tag p) s = .next (s.reply (.site k) ⟨0x01, tag, [40]⟩) ∧
          exec (.release k tag p) s = .next (s.reply (.site k) ⟨0x02, tag, [40]⟩) ∧
          exec (.burn k tag p) s = .next (s.reply (.site k) ⟨0x03, tag, [40]⟩)) ∧
        (s.lc.lotState = .isOpen → s.lc.wafer = .active →
          s.lc.cols ≤ p.col.toNat ∨ s.lc.rows ≤ p.row.toNat →
          exec (.prepare k tag p) s = .next (s.reply (.site k) ⟨0x01, tag, [48]⟩) ∧
          exec (.release k tag p) s = .next (s.reply (.site k) ⟨0x02, tag, [48]⟩) ∧
          exec (.burn k tag p) s = .next (s.reply (.site k) ⟨0x03, tag, [48]⟩))))

/-- A RELEASE acts on the state `u` in which the accesses that came before it have been taken, which is the state it meets
when none waits. A slot that the asking site holds for the position in DERIVING or STAGED becomes EMPTY, its derivation is
withdrawn, the record's holder is cleared with the page mark and the reply is DONE; a BURNING one is answered DIE BUSY; no
record, another holder, an EMPTY slot and a slot taken for another record are answered NO SLOT (R44, R54, R84, R85, R95).
That the access is taken in this step, after those before it, is log 12, that a BURN waiting for the slot is answered NO
SLOT after it is log 35, and that its channel then takes up a deferred calibration is log 18. -/
def Obligations.ReleaseEmptiesTheSlot : Prop :=
  ∀ (k : Site) (tag : Byte) (p : Pos) (s u : State), s.SiteReady k → s.Admits p → (s.site k).cmd = none →
    u = s.drainFor k false →
    ((∀ e ∈ s.port, e.moment = s.now ∧ ¬(e.site = k ∧ e.access.byChannel = false)) → u = s) ∧
    (u.drt.lookup p = none → exec (.release k tag p) s = .next (u.reply (.site k) ⟨0x02, tag, [49]⟩)) ∧
    ∀ (i : Nat) (r : DieRecord), u.drt.lookup p = some i → u.drt.records[i]? = some r →
      ((∀ l, r.holder = some { site := k, slot := some l } → ((u.chan k).slot l).state = .empty ∨
          ((u.chan k).slot l).taking.map Taking.idx ≠ some i) →
        exec (.release k tag p) s = .next (u.reply (.site k) ⟨0x02, tag, [49]⟩)) ∧
      ∀ (l : SlotId) (x : Taking), r.holder = some { site := k, slot := some l } →
        ((u.chan k).slot l).taking = some x → x.idx = i →
        (∀ b, ((u.chan k).slot l).state = .deriving → (u.chan k).state = .waiting → (u.chan k).burning = some l →
          (u.site k).burn = some b → (u.site k).aborts = [] →
          ∃ t, exec (.release k tag p) s = .next t ∧
            t.chan k = { (u.chan k).setSlot l
                { state := .empty, taking := none, image := none,
                  discardPending := ((u.chan k).slot l).discardPending || u.du.runs (DEntry.isSlot k l) } with
              state := if (u.chan k).calDeferred then .calibrating else .idle
              calDeferred := false
              calRun := if (u.chan k).calDeferred then some { codes := [], kind := 0x03 } else (u.chan k).calRun
              readImage := none
              lockRead := none
              readSoFar := 0
              measured := 0
              snapshot := none
              curFuse := none
              remaining := 0
              burning := none
              ending := none
              lookupWait := false
              driving := false
              measuring := false } ∧
            t.du = { queue := u.du.queue.filter (fun e => !DEntry.isSlot k l e)
                     current := u.du.current.map fun d =>
                       if DEntry.isSlot k l d.entry then { d with discard := true } else d
                     pointer := u.du.pointer } ∧
            t.drt.records = u.drt.records.set i { r with holder := none } ∧
            t.drt.marks = u.drt.marks.setIfInBounds (i / 64) true ∧ t.drt.counts = u.drt.counts ∧
            t.drt.posMap = u.drt.posMap ∧
            t.site k = { u.site k with burn := none, io := { (u.site k).io with
              replies := (u.site k).io.replies ++ [⟨0x02, tag, [0]⟩, ⟨0x03, b.tag, [49]⟩] } } ∧
            (∀ j, j ≠ k → t.site j = u.site j ∧ t.chan j = u.chan j) ∧
            { t with chans := u.chans, du := u.du, drt := u.drt, sites := u.sites } = u) ∧
        (((u.chan k).slot l).state = .burning →
          exec (.release k tag p) s = .next (u.reply (.site k) ⟨0x02, tag, [52, wordOf i, wordOf k.val]⟩)) ∧
        (((u.chan k).slot l).state = .deriving ∨ ((u.chan k).slot l).state = .staged →
          ¬((u.chan k).state = .waiting ∧ (u.chan k).burning = some l) →
          ∃ t, exec (.release k tag p) s = .next t ∧
            t.chan k = (u.chan k).setSlot l
              { state := .empty, taking := none, image := none,
                discardPending := ((u.chan k).slot l).discardPending || u.du.runs (DEntry.isSlot k l) } ∧
            (∀ j, j ≠ k → t.chan j = u.chan j) ∧
            t.du = { queue := u.du.queue.filter (fun e => !DEntry.isSlot k l e)
                     current := u.du.current.map fun d =>
                       if DEntry.isSlot k l d.entry then { d with discard := true } else d
                     pointer := u.du.pointer } ∧
            t.drt.records = u.drt.records.set i { r with holder := none } ∧
            t.drt.marks = u.drt.marks.setIfInBounds (i / 64) true ∧ t.drt.counts = u.drt.counts ∧
            t.drt.posMap = u.drt.posMap ∧
            t.site k = { u.site k with io := { (u.site k).io with
              replies := (u.site k).io.replies ++ [⟨0x02, tag, [0]⟩] } } ∧
            (∀ j, j ≠ k → t.site j = u.site j) ∧
            { t with chans := u.chans, du := u.du, drt := u.drt, sites := u.sites } = u)

/-- A BURN whose position no STAGED or DERIVING slot of the site holds is answered NO SLOT; else the channel decides: HALTED
answers CHANNEL HALTED, UNCALIBRATED answers UNCALIBRATED, CALIBRATING keeps the BURN on its lane, IDLE with PWRWARN
asserted answers POWER WARNING. On an IDLE channel it is otherwise accepted, for a STAGED slot into QUALIFYING with a
snapshot of the offered profile, for a DERIVING slot into WAITING without one (R102, R103, R104, R106, R139). -/
def Obligations.BurnIsAccepted : Prop :=
  ∀ (k : Site) (tag : Byte) (p : Pos) (s : State), s.SiteReady k → s.Admits p → (s.site k).burn = none →
    (∀ a ∈ (s.site k).aborts, a.waitsCmd = true ∧ a.waitsBurn = false) →
    (s.drt.lookup p = none → exec (.burn k tag p) s = .next (s.reply (.site k) ⟨0x03, tag, [49]⟩)) ∧
    ∀ (i : Nat) (r : DieRecord), s.drt.lookup p = some i → s.drt.records[i]? = some r →
      ((∀ l, r.holder = some { site := k, slot := some l } →
          ((s.chan k).slot l).state = .empty ∨ ((s.chan k).slot l).state = .burning) →
        exec (.burn k tag p) s = .next (s.reply (.site k) ⟨0x03, tag, [49]⟩)) ∧
      ∀ l : SlotId, r.holder = some { site := k, slot := some l } →
        ((s.chan k).slot l).state = .staged ∨ ((s.chan k).slot l).state = .deriving →
        ((s.chan k).state = .halted → exec (.burn k tag p) s = .next (s.reply (.site k) ⟨0x03, tag, [65]⟩)) ∧
        ((s.chan k).state = .uncalibrated → exec (.burn k tag p) s = .next (s.reply (.site k) ⟨0x03, tag, [64]⟩)) ∧
        ((s.chan k).state = .calibrating →
          exec (.burn k tag p) s = .next { s with
            sites := s.sites.set k { s.site k with burn := some { tag := tag, pos := p, waitsCal := true } } }) ∧
        ((s.chan k).state = .idle → s.pwrwarn = true →
          exec (.burn k tag p) s = .next (s.reply (.site k) ⟨0x03, tag, [66]⟩)) ∧
        ((s.chan k).state = .idle → s.pwrwarn = false →
          ∃ t, exec (.burn k tag p) s = .next t ∧
            t.site k = { s.site k with burn := some { tag := tag, pos := p, waitsCal := false } } ∧
            (∀ j, j ≠ k → t.site j = s.site j ∧ t.chan j = s.chan j) ∧
            (((s.chan k).slot l).state = .staged →
              t.chan k = { (s.chan k).setSlot l { (s.chan k).slot l with state := .burning } with
                state := .qualifying
                snapshot := some { profile := s.ps.profile, gen := s.ps.gen }
                qualCounter := 0
                bounce := 0
                qualTimer := 0
                burning := some l
                contactLost := false
                attPulses := 0
                attBits := 0
                cls := none
                ending := none }) ∧
            (((s.chan k).slot l).state ≠ .staged →
              t.chan k = { s.chan k with
                state := .waiting
                burning := some l
                contactLost := false
                attPulses := 0
                attBits := 0
                cls := none
                ending := none }) ∧
            { t with chans := s.chans, sites := s.sites } = s)

/-- An ABORT on a site with nothing outstanding is answered DONE at once. One that meets a PREPARE waiting for its
block or held by a serial watch has it answered ABORTED first and its claim cleared by an access; one held by a
position watch is answered without an access; one in its binding or slot access is let through it and leaves nothing
to end, so DONE is formed at once; one in its lookup is let through it, and the ABORT waits: if a draw of it then
waits, it is answered ABORTED before DONE, with its claim cleared by an access, and if a serial is drawn DONE is
formed and it goes on. A BURN waiting on a calibration is answered ABORTED; a burn in WAITING or QUALIFYING ends
ABORTED without a write; one in ADOPT WAIT, waiting for its serial lookup, or between a measurement and the next pulse
ends at once and the ABORT waits for its reply; a pulse or measurement in progress runs out under the fixed ending.
Whatever it meets, it reaches no other site's lanes, slots or channel, and no allocator, journal, profile or watch
state. A PREPARE and a BURN that both end at once are answered in that order before DONE; an ABORT that meets a burn
whose ending is fixed or whose ending write waits changes nothing there and waits, after any earlier ABORT (R29, R52,
R90, R103, R105, R121, R125, R160). That DONE waits for a lookup in progress is the model's inference, log 44; the
order of the two replies is its choice, log 41; that a burn which ends in WAITING takes up a deferred calibration is
log 18. -/
def Obligations.AbortEndsTheWaitingDraw : Prop :=
  (∀ (k : Site) (tag : Byte) (s : State), s.SiteReady k → (s.site k).burn = none → (s.site k).aborts = [] →
     ((s.site k).cmd = none →
       exec (.abort k tag) s = .next (s.reply (.site k) ⟨0x04, tag, [0]⟩)) ∧
     ∀ q : PrepReq, (s.site k).cmd = some q →
       (∀ i, q.phase = .waitBlock i ∨ (∃ n, q.phase = .heldSerial i n) →
         ∃ t, exec (.abort k tag) s = .next t ∧
           t.site k = { s.site k with cmd := none, io := { (s.site k).io with
             replies := (s.site k).io.replies ++ [⟨0x01, q.tag, [89]⟩, ⟨0x04, tag, [0]⟩] } } ∧
           (∀ j, j ≠ k → t.site j = s.site j) ∧
           t.port = s.port ++ [{ access := .clearing i, site := k, moment := s.now }] ∧
           { t with sites := s.sites, port := s.port } = s) ∧
       (q.phase = .heldPosition →
         exec (.abort k tag) s = .next { s with
           sites := s.sites.set k { s.site k with cmd := none, io := { (s.site k).io with
             replies := (s.site k).io.replies ++ [⟨0x01, q.tag, [89]⟩, ⟨0x04, tag, [0]⟩] } } }) ∧
       ((∃ i n, q.phase = .binding i n) ∨ (∃ i, q.phase = .slotTaking i) →
         exec (.abort k tag) s = .next (s.reply (.site k) ⟨0x04, tag, [0]⟩)) ∧
       (q.phase = .lookup →
         exec (.abort k tag) s = .next { s with
           sites := s.sites.set k { s.site k with
             cmd := some { q with aborted := true }
             aborts := [{ tag := tag, waitsCmd := true, waitsBurn := false }] } })) ∧
  (∀ (k : Site) (tag : Byte) (q : PrepReq) (b : BurnReq) (s : State), s.SiteReady k → (s.site k).cmd = some q →
     (s.site k).burn = some b →
     (∀ i, q.phase = .waitBlock i ∨ (∃ n, q.phase = .heldSerial i n) →
       (b.waitsCal = true → (s.site k).aborts = [] →
         exec (.abort k tag) s = .next { s with
           port := s.port ++ [{ access := .clearing i, site := k, moment := s.now }]
           sites := s.sites.set k { s.site k with cmd := none, burn := none, io := { (s.site k).io with
             replies := (s.site k).io.replies ++ [⟨0x01, q.tag, [89]⟩, ⟨0x03, b.tag, [89]⟩, ⟨0x04, tag, [0]⟩] } } }) ∧
       (b.waitsCal = false → (s.chan k).runsOut = true → (∀ a ∈ (s.site k).aborts, a.waitsBurn = true) →
         exec (.abort k tag) s = .next { s with
           chans := s.chans.set k { s.chan k with ending := some ((s.chan k).ending.getD .aborted) }
           port := s.port ++ [{ access := .clearing i, site := k, moment := s.now }]
           sites := s.sites.set k { s.site k with
             cmd := none
             aborts := ((s.site k).aborts.map fun a => { a with waitsCmd := false }) ++
               [{ tag := tag, waitsCmd := false, waitsBurn := true }]
             io := { (s.site k).io with replies := (s.site k).io.replies ++ [⟨0x01, q.tag, [89]⟩] } } })) ∧
     (b.waitsCal = false → (s.chan k).runsOut = true →
       (∀ a ∈ (s.site k).aborts, a.waitsCmd = true ∨ a.waitsBurn = true) →
       (∃ i n, q.phase = .binding i n) ∨ (∃ i, q.phase = .slotTaking i) →
       exec (.abort k tag) s = .next { s with
         chans := s.chans.set k { s.chan k with ending := some ((s.chan k).ending.getD .aborted) }
         sites := s.sites.set k { s.site k with
           aborts := (s.site k).aborts ++ [{ tag := tag, waitsCmd := false, waitsBurn := true }] } }) ∧
     (q.phase = .lookup → b.waitsCal = false → (s.chan k).runsOut = true →
       (∀ a ∈ (s.site k).aborts, a.waitsCmd = true ∨ a.waitsBurn = true) →
       exec (.abort k tag) s = .next { s with
         chans := s.chans.set k { s.chan k with ending := some ((s.chan k).ending.getD .aborted) }
         sites := s.sites.set k { s.site k with
           cmd := some { q with aborted := true }
           aborts := (s.site k).aborts ++ [{ tag := tag, waitsCmd := true, waitsBurn := true }] } })) ∧
  (∀ (k : Site) (tag : Byte) (b : BurnReq) (s : State), s.SiteReady k → (s.site k).cmd = none →
     (s.site k).burn = some b →
     (∀ a ∈ (s.site k).aborts, a.waitsBurn = true) → b.waitsCal = false →
     ((s.chan k).runsOut = true →
       exec (.abort k tag) s = .next { s with
         chans := s.chans.set k { s.chan k with ending := some ((s.chan k).ending.getD .aborted) }
         sites := s.sites.set k { s.site k with
           aborts := (s.site k).aborts ++ [{ tag := tag, waitsCmd := false, waitsBurn := true }] } }) ∧
     ((s.chan k).state ∈ [ChanState.uncalibrated, .calibrating, .idle, .halted] →
       exec (.abort k tag) s = .next { s with
         sites := s.sites.set k { s.site k with
           aborts := (s.site k).aborts ++ [{ tag := tag, waitsCmd := false, waitsBurn := true }] } })) ∧
  (∀ (k : Site) (tag : Byte) (b : BurnReq) (s : State), s.SiteReady k → (s.site k).cmd = none →
     (s.site k).aborts = [] → (s.site k).burn = some b →
     (b.waitsCal = true →
       exec (.abort k tag) s = .next { s with
         sites := s.sites.set k { s.site k with burn := none, io := { (s.site k).io with
           replies := (s.site k).io.replies ++ [⟨0x03, b.tag, [89]⟩, ⟨0x04, tag, [0]⟩] } } }) ∧
     ∀ (l : SlotId) (x : Taking), b.waitsCal = false → (s.chan k).burning = some l →
       ((s.chan k).slot l).taking = some x →
       (∀ r, (s.chan k).state = .waiting ∨ (s.chan k).state = .qualifying → s.drt.records[x.idx]? = some r →
         ∃ t, exec (.abort k tag) s = .next t ∧ Channel.LeftBy l .aborted (s.chan k) (t.chan k) ∧
           t.site k = { s.site k with burn := none, io := { (s.site k).io with
             replies := (s.site k).io.replies ++
               [⟨0x03, b.tag, [89, posWord x.pos, wordOf x.idx, hiWord x.serial, loWord x.serial, 0,
                 wordOf (classCode (s.chan k).cls), wordOf (s.chan k).attPulses, wordOf (s.chan k).attBits,
                 wordOf r.attempts, 0]⟩, ⟨0x04, tag, [0]⟩] } } ∧
           (∀ j, j ≠ k → t.site j = s.site j ∧ t.chan j = s.chan j) ∧
           { t with chans := s.chans, sites := s.sites } = s) ∧
       ((s.chan k).endsAtOnce = true →
         ∃ t, exec (.abort k tag) s = .next t ∧ Channel.EndedBy l x .aborted false (s.chan k) (t.chan k) ∧
           State.EndsAt k .ending s t ∧
           t.site k = { s.site k with aborts := [{ tag := tag, waitsCmd := false, waitsBurn := true }] } ∧
           (∀ j, j ≠ k → t.site j = s.site j ∧ t.chan j = s.chan j) ∧
           { t with chans := s.chans, sites := s.sites, port := s.port, du := s.du } = s)) ∧
  (∀ (k : Site) (tag : Byte) (q : PrepReq) (rest : List PortEntry) (m : Nat) (s v : State) (a : DrawResult),
     s.powered = true → s.fu.partStopped = false → (s.site k).cmd = some q → q.phase = .lookup → q.aborted = true →
     (∀ r n b, s.sup.lane = some r → r.task ≠ .resetSite k n b) →
     (s.site k).aborts = [{ tag := tag, waitsCmd := true, waitsBurn := false }] →
     s.port = { access := .lookup, site := k, moment := m } :: rest → s.drt.lookup q.pos = none →
     s.drt.records.length < 8192 → (s.chan k).freeSlot ≠ none → s.draw k = (v, a) →
     (a = .waits →
       exec (.prepareLookup k) s = .next { v with
         drt := s.drt.create q.pos k s.lc.clock
         port := rest ++ [{ access := .clearing s.drt.records.length, site := k, moment := s.now }]
         sites := s.sites.set k { s.site k with cmd := none, aborts := [], io := { (s.site k).io with
           replies := (s.site k).io.replies ++ [⟨0x01, q.tag, [89]⟩, ⟨0x04, tag, [0]⟩] } } }) ∧
     ∀ n, a = .drawn n →
       exec (.prepareLookup k) s = .next { v with
         drt := s.drt.create q.pos k s.lc.clock
         port := rest ++ [{ access := .binding, site := k, moment := s.now }]
         sites := s.sites.set k { s.site k with
           cmd := some { q with phase := .binding s.drt.records.length n, aborted := false }
           aborts := []
           io := { (s.site k).io with replies := (s.site k).io.replies ++ [⟨0x04, tag, [0]⟩] } } }) ∧
  ∀ (k j : Site) (tag : Byte) (s t : State), j ≠ k → exec (.abort k tag) s = .next t →
    t.site j = s.site j ∧ t.chan j = s.chan j ∧ t.sa = s.sa ∧ t.js = s.js ∧ t.ps = s.ps ∧ t.wt = s.wt ∧
    t.lc = s.lc ∧ t.drt = s.drt ∧ t.sup = s.sup

/-- STATUS and READ STATUS are answered DONE at once in every state of the part and whatever the lanes hold, with a reply
place free, and change nothing else (R161, R164, R169, R180); the places of the words named here are the model's choice,
log 23. -/
def Obligations.StatusRequestsAreAnswered : Prop :=
  (∀ (k : Site) (tag : Byte) (s : State), s.powered = true → s.full (.site k) = false →
     ∃ ws : List Word, exec (.status k tag) s = .next (s.reply (.site k) ⟨0x05, tag, 0 :: ws⟩) ∧ ws.length = 40 ∧
       ws[0]? = some (if s.fu.partStopped then 1 else 0) ∧
       ws[1]? = some (if (s.site k).enabled then 0 else 1) ∧
       ws[3]? = some (if (s.site k).burn.isSome then 1 else 0) ∧
       ws[8]? = some (if s.lc.lotState = .isOpen then 1 else 0) ∧
       ws[27]? = some (wordOf (s.chan k).state.code) ∧
       ws[34]? = some (if (s.chan k).contact then 1 else 0) ∧
       ws[35]? = some (if (s.chan k).contactLost then 1 else 0)) ∧
  ∀ (tag : Byte) (s : State), s.powered = true → s.full .supervisor = false →
    ∃ ws : List Word, exec (.readStatus tag) s = .next (s.reply .supervisor ⟨0x31, tag, 0 :: ws⟩) ∧
      ws.take 6 = [if s.fu.partStopped then 1 else 0, if s.fu.resetLineCause then 1 else 0,
        if s.fu.latch then 1 else 0, hiWord (BitVec.ofNat 32 s.fu.count), loWord (BitVec.ofNat 32 s.fu.count),
        if s.sup.lane.isSome then 1 else 0] ∧
      ws[9]? = some (if s.fu.alertLevel then 1 else 0) ∧ ws[10]? = some (wordOf s.lc.lotState.code) ∧
      ws[11]? = some (if s.lc.secret.isSome then 1 else 0) ∧
      ws.drop (ws.length - 2) =
        [hiWord (BitVec.ofNat 32 (s.wt.get 3).hits), loWord (BitVec.ofNat 32 (s.wt.get 3).hits)]

/-! ### Link events -/

/-- A whole message that fails a check is answered FRAME ERROR with the echo R156 gives, with fault 11; a full reply
queue drops the reply and keeps the fault (R156, R157). -/
def Obligations.BrokenMessagesAreReported : Prop :=
  ∀ (l : Link) (m : List Word) (s : State), s.powered = true → wholeMessage m = true →
    (foldedSum m ≠ 65535 →
      exec (.frameError l m) s = .next
        ((if s.full l then s else s.reply l ⟨0, loByte (m.headD 0), [17]⟩).report 11 (faultSite l) none 0)) ∧
    (foldedSum m = 65535 → bodyLength l (hiByte (m.headD 0)) = none →
      exec (.frameError l m) s = .next
        ((if s.full l then s else s.reply l ⟨0, loByte (m.headD 0), [17]⟩).report 11 (faultSite l) none 0)) ∧
    (∀ n, foldedSum m = 65535 → bodyLength l (hiByte (m.headD 0)) = some n → m.length ≠ n + 3 →
      exec (.frameError l m) s = .next
        ((if s.full l then s else s.reply l ⟨hiByte (m.headD 0), loByte (m.headD 0), [17]⟩).report 11 (faultSite l)
          none (hiByte (m.headD 0))))

/-- A byte in AWAIT begins a message; in COLLECT it is added, a body length above 1024 enters DISCARD, and the last byte of
a message sets the receiver at rest and, in the same step, runs the request's own command, or forms the FRAME ERROR of a
message that fails a check; in DISCARD it restarts the gap timer only. The gap timeout forms a FRAME ERROR with kind 0 and
the received tag, 0 before word 0 is complete, and returns the receiver to AWAIT. The sending of a reply's last byte frees
the place of the oldest reply (R155, R156, R157). That the last byte takes the request in its own step is the model's
inference (DEDUCED, log 5). -/
def Obligations.ReceiversFollowTheLine : Prop :=
  (∀ (s : State), s.powered = true →
     (∀ (l : Link) (b : Byte), (s.io l).rx = .await → (s.io l).buf = [] →
       exec (.byteReceived l b) s = .next (s.withIo l { s.io l with rx := .collect, buf := [b], gap := 0 })) ∧
     (∀ (l : Link) (b : Byte), (s.io l).rx = .collect → (s.io l).buf.length < 3 →
       exec (.byteReceived l b) s = .next (s.withIo l { s.io l with buf := (s.io l).buf ++ [b], gap := 0 })) ∧
     (∀ (l : Link) (b x y z : Byte), (s.io l).rx = .collect → (s.io l).buf = [x, y, z] →
       exec (.byteReceived l b) s = .next (s.withIo l { s.io l with
         rx := if 1024 < (joinBytes z b).toNat then .discard else .collect, buf := [x, y, z, b], gap := 0 })) ∧
     (∀ (l : Link) (b w x y z : Byte) (rest : List Byte), (s.io l).rx = .collect →
       (s.io l).buf = w :: x :: y :: z :: rest → (joinBytes y z).toNat ≤ 1024 →
       rest.length + 5 ≠ 2 * ((joinBytes y z).toNat + 3) →
       exec (.byteReceived l b) s = .next (s.withIo l { s.io l with buf := (s.io l).buf ++ [b], gap := 0 })) ∧
     (∀ (l : Link) (b : Byte), (s.io l).rx = .discard →
       exec (.byteReceived l b) s = .next (s.withIo l { s.io l with gap := 0 })) ∧
     (∀ (k : Site) (tag : Byte) (r : SiteReq) (b : Byte), (s.io (.site k)).rx = .collect →
       (s.io (.site k)).buf ++ [b] = bytesOf (r.message tag).words →
       exec (.byteReceived (.site k) b) s =
         exec (r.instr k tag) (s.withIo (.site k) { s.io (.site k) with rx := .await, buf := [], gap := 0 })) ∧
     (∀ (tag : Byte) (r : SupReq) (b : Byte), (s.io .supervisor).rx = .collect →
       (s.io .supervisor).buf ++ [b] = bytesOf (r.message tag).words →
       exec (.byteReceived .supervisor b) s =
         exec (r.instr tag) (s.withIo .supervisor { s.io .supervisor with rx := .await, buf := [], gap := 0 })) ∧
     ∀ (l : Link) (m : List Word) (kind tag b : Byte), (s.io l).rx = .collect → (s.io l).buf ++ [b] = bytesOf m →
       wholeMessage m = true → checkFrame l m = .bad kind tag →
       exec (.byteReceived l b) s =
         exec (.frameError l m) (s.withIo l { s.io l with rx := .await, buf := [], gap := 0 })) ∧
  (∀ (l : Link) (s : State), s.powered = true → (s.io l).rx ≠ .await →
     ∃ t, exec (.gapTimeout l) s = .next t ∧
       t.io l = { rx := .await, buf := [], gap := 0,
                  replies := if s.full l then (s.io l).replies
                    else (s.io l).replies ++ [⟨0, if 2 ≤ (s.io l).buf.length then (s.io l).buf.getD 1 0 else 0, [17]⟩] } ∧
       (∀ m, m ≠ l → t.io m = s.io m) ∧ t.sup.lane = s.sup.lane ∧
       (∀ k, { t.site k with io := (s.site k).io } = s.site k) ∧
       t.fu = s.fu.take ⟨11, faultSite l, none, 0, s.lc.clock⟩ ∧
       { t with sites := s.sites, sup := s.sup, fu := s.fu } = s) ∧
  ∀ (l : Link) (m : Message) (rest : List Message) (s : State), s.powered = true → (s.io l).replies = m :: rest →
    ∃ t, exec (.replySent l) s = .next t ∧ t.io l = { s.io l with replies := rest } ∧
      t.placesInUse l + 1 = s.placesInUse l ∧ (∀ j, j ≠ l → t.io j = s.io j) ∧ t.sup.lane = s.sup.lane ∧
      (∀ k, { t.site k with io := (s.site k).io } = s.site k) ∧ { t with sites := s.sites, sup := s.sup } = s

/-! ### Accesses at the table's port -/

/-- The lookup of a position without a record is answered SLOTS FULL or TABLE FULL, or else creates the record with the next
index, held by the site with its slot not yet taken, and asks for a draw. A RESERVED record without a holder is claimed
the same way, and an INTERRUPTED or FAILED one without the mark is taken up as RESERVED, if a slot is free; a claimed record
with a serial has its slot access placed, one without asks for a draw: a drawn serial has its binding placed, a draw that
waits keeps the PREPARE, and no serial is answered LOT EXHAUSTED with the claim cleared by an access. A record that needs no
work, or may not have it, answers the PREPARE with the code and words of R47 and R164, and changes neither table nor
allocator (R24, R25, R47, R48, R49, R51); the answers to a VOID record and to one the site itself has claimed are the
model's choice, log 36. -/
def Obligations.LookupFollowsTheRecord : Prop :=
  ∀ (k : Site) (q : PrepReq) (rest : List PortEntry) (m : Nat) (s : State), s.powered = true →
    s.fu.partStopped = false → (s.site k).cmd = some q → q.phase = .lookup → q.aborted = false →
    s.port = { access := .lookup, site := k, moment := m } :: rest →
    (∀ (d : Table) (i : Nat) (v : State) (a : DrawResult), s.draw k = (v, a) → (s.chan k).freeSlot ≠ none →
      (s.drt.lookup q.pos = none ∧ s.drt.records.length < 8192 ∧ i = s.drt.records.length ∧
          d = s.drt.create q.pos k s.lc.clock) ∨
        (∃ r, s.drt.lookup q.pos = some i ∧ s.drt.records[i]? = some r ∧ r.state = .reserved ∧ r.holder = none ∧
          r.serial = none ∧
          d = { s.drt with
            records := s.drt.records.set i { r with holder := some { site := k, slot := none } }
            marks := s.drt.marks.setIfInBounds (i / 64) true }) →
      (∀ n, a = .drawn n →
        exec (.prepareLookup k) s = .next { v with
          drt := d
          sites := s.sites.set k { s.site k with cmd := some { q with phase := .binding i n } }
          port := rest ++ [{ access := .binding, site := k, moment := s.now }] }) ∧
      (a = .waits →
        exec (.prepareLookup k) s = .next { v with
          drt := d, sites := s.sites.set k { s.site k with cmd := some { q with phase := .waitBlock i } }
          port := rest }) ∧
      (a = .exhausted →
        exec (.prepareLookup k) s = .next (State.answerPrepare k 38 [] { v with
          drt := d, port := rest ++ [{ access := .clearing i, site := k, moment := s.now }] }))) ∧
    (s.drt.lookup q.pos = none →
      ((s.chan k).freeSlot = none →
        exec (.prepareLookup k) s = .next ((s.withPort rest).answerPrepare k 50 [])) ∧
      ((s.chan k).freeSlot ≠ none → 8192 ≤ s.drt.records.length →
        exec (.prepareLookup k) s = .next ((s.withPort rest).answerPrepare k 51 [])) ∧
      ∃ d : Table, d = s.drt.create q.pos k s.lc.clock ∧
        d.records = s.drt.records ++
          [{ pos := q.pos, serial := none, state := .reserved, attempts := 0, exhausted := false, lastSite := none,
             holder := some { site := k, slot := none }, pulses := 0, bits := 0, lastOutcome := none,
             recovered := false, stamp := s.lc.clock }] ∧
        d.lookup q.pos = some s.drt.records.length ∧
        (∀ p, posEntry p ≠ posEntry q.pos → d.lookup p = s.drt.lookup p) ∧
        d.marks = s.drt.marks.setIfInBounds (s.drt.records.length / 64) true ∧
        d.counts = { s.drt.counts with reserved := s.drt.counts.reserved + 1 }) ∧
    ∀ (i : Nat) (r : DieRecord), s.drt.lookup q.pos = some i → s.drt.records[i]? = some r →
      (∀ n, r.state = .reserved → r.holder = none → r.serial = some n → (s.chan k).freeSlot ≠ none →
        exec (.prepareLookup k) s = .next { s with
          drt := { s.drt with
            records := s.drt.records.set i { r with holder := some { site := k, slot := none } }
            marks := s.drt.marks.setIfInBounds (i / 64) true }
          sites := s.sites.set k { s.site k with cmd := some { q with phase := .slotTaking i } }
          port := rest ++ [{ access := .slotTaking, site := k, moment := s.now }] }) ∧
      (r.state = .interrupted ∨ r.state = .failed → r.exhausted = false → (s.chan k).freeSlot ≠ none →
        exec (.prepareLookup k) s = .next { s with
          drt := { s.drt with
            records := s.drt.records.set i { r with
              state := .reserved, holder := some { site := k, slot := none }, stamp := s.lc.clock }
            marks := s.drt.marks.setIfInBounds (i / 64) true
            counts := (s.drt.counts.lower r.state).raise .reserved }
          sites := s.sites.set k { s.site k with cmd := some { q with phase := .slotTaking i } }
          port := rest ++ [{ access := .slotTaking, site := k, moment := s.now }] }) ∧
      (∀ h, r.state = .reserved → r.holder = some h → h.site ≠ k ∨ h.slot = none →
        exec (.prepareLookup k) s =
          .next ((s.withPort rest).answerPrepare k 52 [wordOf i, wordOf h.site.val])) ∧
      (∀ h, r.state = .burning → r.holder = some h →
        exec (.prepareLookup k) s =
          .next ((s.withPort rest).answerPrepare k 52 [wordOf i, wordOf h.site.val])) ∧
      (∀ l n, r.state = .reserved → r.holder = some { site := k, slot := some l } → r.serial = some n →
        exec (.prepareLookup k) s =
          .next ((s.withPort rest).answerPrepare k 0
            [wordOf i, hiWord n, loWord n, wordOf l.code, wordOf r.attempts])) ∧
      (r.state = .reserved ∧ r.holder = none ∨
          (r.state = .interrupted ∨ r.state = .failed) ∧ r.exhausted = false → (s.chan k).freeSlot = none →
        exec (.prepareLookup k) s = .next ((s.withPort rest).answerPrepare k 50 [])) ∧
      (∀ n, r.state = .verified ∨ r.state = .locked → r.serial = some n →
        exec (.prepareLookup k) s =
          .next ((s.withPort rest).answerPrepare k 53 [wordOf i, hiWord n, loWord n, wordOf r.state.code])) ∧
      ((r.state = .interrupted ∨ r.state = .failed) ∧ r.exhausted = true ∨ r.state = .retired ∨ r.state = .foreign ∨
          r.state = .void →
        exec (.prepareLookup k) s =
          .next ((s.withPort rest).answerPrepare k 54 [wordOf i, wordOf r.state.code]))

/-- The binding access gives the record the drawn serial and sets its page mark; every watch entry on the serial records
a hit; a HOLD among them holds the PREPARE, and otherwise its slot access waits at the port (R49, R87). -/
def Obligations.BindingFillsTheSerial : Prop :=
  ∀ (k : Site) (q : PrepReq) (i : Nat) (n : Serial) (r : DieRecord) (rest : List PortEntry) (m : Nat) (s : State),
    s.powered = true → (s.site k).cmd = some q → q.phase = .binding i n →
    s.port = { access := .binding, site := k, moment := m } :: rest → s.drt.records[i]? = some r →
    ∃ t, exec (.serialBinding k) s = .next t ∧
      t.drt = { s.drt with
        records := s.drt.records.set i { r with serial := some n }
        marks := s.drt.marks.setIfInBounds (i / 64) true } ∧
      (∀ e, t.wt.get e = if (s.wt.get e).content = .serial n
        then { s.wt.get e with hits := min 255 ((s.wt.get e).hits + 1) } else s.wt.get e) ∧
      t.fu = (if ∃ e, (s.wt.get e).content = .serial n
        then { s.fu with flags := { s.fu.flags with watch := true } } else s.fu) ∧
      t.site k = { s.site k with
        cmd := some { q with
          phase := if ∃ e, (s.wt.get e).content = .serial n ∧ (s.wt.get e).hold = true
            then .heldSerial i n else .slotTaking i } } ∧
      (∀ j, j ≠ k → t.site j = s.site j) ∧
      t.port = (if ∃ e, (s.wt.get e).content = .serial n ∧ (s.wt.get e).hold = true then rest
        else rest ++ [{ access := .slotTaking, site := k, moment := s.now }]) ∧
      { t with drt := s.drt, wt := s.wt, fu := s.fu, sites := s.sites, port := s.port } = s

/-- The slot access takes slot A when it is EMPTY, otherwise slot B; the slot becomes DERIVING with record, position and
serial, its entry is placed at the derivation unit, where it waits behind a derivation in progress or is chosen among those
queued, the record's holder is completed and the PREPARE is answered DONE (R50, R81, R92, R93). -/
def Obligations.SlotAccessStartsTheDerivation : Prop :=
  ∀ (k : Site) (q : PrepReq) (i : Nat) (n : Serial) (l : SlotId) (r : DieRecord)
    (rest : List PortEntry) (m : Nat) (s : State),
    s.powered = true → (s.site k).cmd = some q → q.phase = .slotTaking i → (s.site k).aborts = [] →
    s.port = { access := .slotTaking, site := k, moment := m } :: rest → s.drt.records[i]? = some r →
    r.serial = some n →
    l = (if (s.chan k).slotA.state = .empty then SlotId.a else .b) → ((s.chan k).slot l).state = .empty →
    ∃ t, exec (.slotAccess k) s = .next t ∧
      t.chan k = (s.chan k).setSlot l
        { state := .deriving, taking := some { idx := i, pos := r.pos, serial := n }, image := none,
          discardPending := ((s.chan k).slot l).discardPending } ∧
      (∀ j, j ≠ k → t.chan j = s.chan j ∧ t.site j = s.site j) ∧
      t.du = s.placedEntry (.slot k l n r.pos s.lc.header.lotTag) ∧
      t.drt = { s.drt with
        records := s.drt.records.set i { r with holder := some { site := k, slot := some l } }
        marks := s.drt.marks.setIfInBounds (i / 64) true } ∧
      t.site k = { s.site k with
        cmd := none
        io := { (s.site k).io with
          replies := (s.site k).io.replies ++
            [⟨0x01, q.tag, [0, wordOf i, hiWord n, loWord n, wordOf l.code, wordOf r.attempts]⟩] } } ∧
      t.port = rest ∧
      { t with chans := s.chans, du := s.du, drt := s.drt, sites := s.sites, port := s.port } = s

/-- The clearing of an ended PREPARE's claim leaves the record without a holder and marks its page (R52, R59). -/
def Obligations.ClaimIsCleared : Prop :=
  ∀ (k : Site) (i : Nat) (r : DieRecord) (rest : List PortEntry) (m : Nat) (s : State), s.powered = true →
    s.port = { access := .clearing i, site := k, moment := m } :: rest → s.drt.records[i]? = some r →
    r.holder = some { site := k, slot := none } →
    exec (.claimClearing k) s = .next { s with
      port := rest
      drt := { s.drt with
        records := s.drt.records.set i { r with holder := none }
        marks := s.drt.marks.setIfInBounds (i / 64) true } }

/-- The ending write gives the record its ending state, outcome, stamp and mark, clears its holder, moves the counts
and answers the BURN. ABORTs that waited for this reply alone are answered DONE after it, in their order; behind one
that waits for its PREPARE too, they go on waiting (R57, R118, R119, R121, R160). -/
def Obligations.EndingWriteEndsTheRecord : Prop :=
  ∀ (k : Site) (b : BurnReq) (w : EndWrite) (e : Ending) (st : RecState) (r : DieRecord) (rest : List PortEntry)
    (m : Nat) (done wait : List AbortWait) (s : State),
    s.powered = true → s.port = { access := .ending, site := k, moment := m } :: rest →
    (s.chan k).endWrite = some w → w.ending = e → s.drt.records[w.taking.idx]? = some r → r.state = .burning →
    r.exhausted = false → (s.site k).burn = some b →
    (s.site k).aborts = done ++ wait → (∀ a ∈ done, a.waitsCmd = false) →
    (∀ a, wait.head? = some a → a.waitsCmd = true) →
    (e, st) ∈ [(Ending.verified, RecState.verified), (.locked, .locked), (.bitOpen, .failed), (.verifyLoss, .failed),
      (.lockOpen, .failed), (.contactLost, .interrupted), (.aborted, .interrupted), (.powerWarning, .interrupted),
      (.driverFault, .interrupted), (.partStopped, .interrupted), (.fuseConflict, .retired), (.foreignDie, .foreign)] →
    ∃ t r', exec (.burnEndingWrite k) s = .next t ∧
      r' = { r with
        state := st
        lastOutcome := some (.ended e)
        holder := none
        stamp := s.lc.clock
        exhausted := (st == .failed || st == .interrupted) && r.attempts == 3 } ∧
      t.drt.records = s.drt.records.set w.taking.idx r' ∧
      t.drt.marks = s.drt.marks.setIfInBounds (w.taking.idx / 64) true ∧ t.drt.posMap = s.drt.posMap ∧
      t.drt.counts.burning = s.drt.counts.burning - 1 ∧ t.drt.counts.get st = s.drt.counts.get st + 1 ∧
      t.drt.counts.exhausted = s.drt.counts.exhausted + (if r'.exhausted then 1 else 0) ∧
      t.chan k = { s.chan k with endWrite := none, ending := some e } ∧
      t.site k = { s.site k with
        burn := none
        aborts := wait.map fun a => { a with waitsBurn := false }
        io := { (s.site k).io with
          replies := (s.site k).io.replies ++
            [⟨0x03, b.tag, [e.word, posWord w.taking.pos, wordOf w.taking.idx, hiWord w.taking.serial,
              loWord w.taking.serial, wordOf st.code, wordOf (classCode (s.chan k).cls),
              wordOf (s.chan k).attPulses, wordOf (s.chan k).attBits,
              wordOf (r.attempts + 32768 * r'.exhausted.toNat), 0]⟩] ++
            done.map fun a => ⟨0x04, a.tag, [0]⟩ } } ∧
      (∀ j, j ≠ k → t.chan j = s.chan j ∧ t.site j = s.site j) ∧ t.port = rest ∧
      { t with drt := s.drt, chans := s.chans, sites := s.sites, port := s.port } = s

/-- The serial lookup of adoption test 7: not held, the channel enters ADOPT WAIT with its adoption entry at the
derivation unit; held, the burn ends FOREIGN DIE with its ending write placed and no fault. The adoption access, with
the serial held by no other record, gives the record the serial read from the fuses and the state VERIFIED or LOCKED by
the lock read, and counts a skipped serial; with it held, the record becomes FOREIGN and keeps its serial. The BURN is
answered ADOPTED with the serial read, or FOREIGN DIE with the record's own (R58, R92, R93, R96, R112, R113, R119). -/
def Obligations.AdoptionDecidesTheDie : Prop :=
  (∀ (k : Site) (l : SlotId) (i : Image) (x : Taking) (rest : List PortEntry) (m : Nat) (s : State),
     s.powered = true → s.port = { access := .serialLookup, site := k, moment := m } :: rest →
     (s.chan k).state = .checking → (s.chan k).readImage = some i → (s.chan k).burning = some l →
     ((s.chan k).slot l).taking = some x →
     (s.drt.serialHeld x.idx (readSerialOf i) = false →
       ∃ t, exec (.adoptionSerialLookup k) s = .next t ∧
         t.chan k = { s.chan k with state := .adoptWait, lookupWait := false } ∧
         t.du = s.placedEntry (.adopt k (readSerialOf i) (readPos i) s.lc.header.lotTag) ∧ t.port = rest ∧
         (∀ j, j ≠ k → t.chan j = s.chan j) ∧ { t with chans := s.chans, du := s.du, port := s.port } = s) ∧
     (s.drt.serialHeld x.idx (readSerialOf i) = true →
       ∃ t, exec (.adoptionSerialLookup k) s = .next t ∧
         Channel.EndedBy l x .foreignDie false (s.chan k) (t.chan k) ∧ State.EndsAt k .ending s t ∧
         (∀ j, j ≠ k → t.chan j = s.chan j) ∧ { t with chans := s.chans, du := s.du, port := s.port } = s)) ∧
  ∀ (k : Site) (w : EndWrite) (r : DieRecord) (rest : List PortEntry) (m : Nat) (s : State),
    s.powered = true → s.port = { access := .adoption, site := k, moment := m } :: rest →
    (s.chan k).endWrite = some w → s.drt.records[w.taking.idx]? = some r → r.state = .burning → r.exhausted = false →
    r.recovered = false → r.attempts = 1 →
    ((∀ j r₂, s.drt.records[j]? = some r₂ → j ≠ w.taking.idx → r₂.serial ≠ some w.readSerial) →
      ∃ t, exec (.adoptionAccess k) s = .next t ∧
        t.drt.records = s.drt.records.set w.taking.idx
          { r with
            state := if w.lockRead then .locked else .verified
            serial := some w.readSerial
            recovered := true
            lastOutcome := some (.ended .adopted)
            holder := none
            stamp := s.lc.clock } ∧
        t.drt.counts.skipped = s.drt.counts.skipped + 1 ∧ t.drt.counts.recovered = s.drt.counts.recovered + 1 ∧
        t.chan k = { s.chan k with endWrite := none, ending := some .adopted } ∧
        (∀ b, (s.site k).burn = some b → (s.site k).aborts = [] → t.site k = { s.site k with
          burn := none
          io := { (s.site k).io with
            replies := (s.site k).io.replies ++
              [⟨0x03, b.tag, [82, posWord w.taking.pos, wordOf w.taking.idx, hiWord w.readSerial,
                loWord w.readSerial, if w.lockRead then 5 else 4, wordOf (classCode (s.chan k).cls),
                wordOf (s.chan k).attPulses, wordOf (s.chan k).attBits, 1, 0]⟩] } }) ∧
        (∀ e, t.wt.get e = if (s.wt.get e).content = .serial w.readSerial
          then { s.wt.get e with hits := min 255 ((s.wt.get e).hits + 1) } else s.wt.get e) ∧
        t.fu = (if ∃ e, (s.wt.get e).content = .serial w.readSerial
          then { s.fu with flags := { s.fu.flags with watch := true } } else s.fu) ∧
        t.port = rest ∧ (∀ j, j ≠ k → t.chan j = s.chan j ∧ t.site j = s.site j) ∧
        { t with drt := s.drt, chans := s.chans, sites := s.sites, port := s.port, wt := s.wt, fu := s.fu } = s) ∧
    ((∃ j r₂, s.drt.records[j]? = some r₂ ∧ j ≠ w.taking.idx ∧ r₂.serial = some w.readSerial) →
      ∃ t, exec (.adoptionAccess k) s = .next t ∧
        t.drt.records = s.drt.records.set w.taking.idx
          { r with
            state := .foreign
            lastOutcome := some (.ended .foreignDie)
            holder := none
            stamp := s.lc.clock } ∧
        t.drt.counts.skipped = s.drt.counts.skipped ∧ t.port = rest ∧
        t.chan k = { s.chan k with endWrite := none, ending := some .foreignDie } ∧
        (∀ b, (s.site k).burn = some b → (s.site k).aborts = [] → t.site k = { s.site k with
          burn := none
          io := { (s.site k).io with
            replies := (s.site k).io.replies ++
              [⟨0x03, b.tag, [83, posWord w.taking.pos, wordOf w.taking.idx, hiWord w.taking.serial,
                loWord w.taking.serial, 7, wordOf (classCode (s.chan k).cls),
                wordOf (s.chan k).attPulses, wordOf (s.chan k).attBits, 1, 0]⟩] } }) ∧
        (∀ j, j ≠ k → t.chan j = s.chan j ∧ t.site j = s.site j) ∧
        { t with drt := s.drt, chans := s.chans, sites := s.sites, port := s.port } = s)

/-! ### Burn events -/

/-- The live contact flag follows the comparator. An opening in QUALIFYING restarts the count and counts a bounce; in a
state without a burn past qualification it does nothing more. An opening while the channel reads, programs, verifies or
locks ends the burn CONTACT LOST at once: a pulse being driven is counted and written, the latched flag is set, fault 32
is reported and the ending write is placed; the channel goes to IDLE, or to a deferred calibration. Under an ending that an
interruption has fixed already, the pulse is cut and the burn ends with that ending, without fault 32 and without the
latched flag (R106, R108, R118, R120, R125). That the flag follows without a supply too is log 9, and that such an ending is
taken at once is log 20. -/
def Obligations.ContactIsFollowed : Prop :=
  (∀ (k : Site) (s : State),
     (∃ t, exec (.contactCloses k) s = .next t ∧ t.chan k = { s.chan k with contact := true } ∧
       (∀ j, j ≠ k → t.chan j = s.chan j) ∧ { t with chans := s.chans } = s) ∧
     (s.powered = true → (s.chan k).contact = true → (s.chan k).state = .qualifying →
       ∃ t, exec (.contactOpens k) s = .next t ∧
         t.chan k = { s.chan k with contact := false, qualCounter := 0, bounce := min 255 ((s.chan k).bounce + 1) } ∧
         (∀ j, j ≠ k → t.chan j = s.chan j) ∧ { t with chans := s.chans } = s) ∧
     ((s.chan k).state ∈ [ChanState.uncalibrated, .calibrating, .idle, .waiting, .halted] →
       ∃ t, exec (.contactOpens k) s = .next t ∧ t.chan k = { s.chan k with contact := false } ∧
         (∀ j, j ≠ k → t.chan j = s.chan j) ∧ { t with chans := s.chans } = s)) ∧
  (∀ (k : Site) (l : SlotId) (x : Taking) (s : State), s.powered = true → (s.chan k).contact = true →
    (s.chan k).state ∈ [ChanState.checking, .adoptWait, .programming, .verifying, .locking] →
    (s.chan k).ending = none → (s.chan k).burning = some l → ((s.chan k).slot l).taking = some x →
    ∃ t, exec (.contactOpens k) s = .next t ∧
      Channel.EndedBy l x .contactLost false
        (if (s.chan k).pulsing && (s.chan k).driving then
          { s.chan k with
            contact := false
            curPulses := (s.chan k).curPulses + 1
            attPulses := (s.chan k).attPulses + 1 }
        else { s.chan k with contact := false }) (t.chan k) ∧
      t.drt = (if (s.chan k).pulsing && (s.chan k).driving
        then s.drt.modify x.idx (fun r => { r with pulses := min 65535 (r.pulses + 1) }) else s.drt) ∧
      State.EndsAt k .ending s t ∧
      t.fu = s.fu.take ⟨32, some k, some x.pos, 0x03, s.lc.clock⟩ ∧ (∀ j, j ≠ k → t.chan j = s.chan j) ∧
      { t with chans := s.chans, drt := s.drt, port := s.port, fu := s.fu, du := s.du } = s) ∧
  ∀ (k : Site) (l : SlotId) (x : Taking) (e : Ending) (s : State), s.powered = true → (s.chan k).contact = true →
    (s.chan k).state ∈ [ChanState.checking, .programming, .verifying, .locking] → Channel.FixedBy l x e (s.chan k) →
    ∃ t, exec (.contactOpens k) s = .next t ∧
      Channel.EndedBy l x e false
        (if (s.chan k).pulsing && (s.chan k).driving then
          { s.chan k with
            contact := false
            curPulses := (s.chan k).curPulses + 1
            attPulses := (s.chan k).attPulses + 1 }
        else { s.chan k with contact := false }) (t.chan k) ∧
      t.drt = (if (s.chan k).pulsing && (s.chan k).driving
        then s.drt.modify x.idx (fun r => { r with pulses := min 65535 (r.pulses + 1) }) else s.drt) ∧
      State.EndsAt k .ending s t ∧ t.fu = s.fu.fixedEnding k x.pos s.lc.clock e ∧
      (∀ j, j ≠ k → t.chan j = s.chan j) ∧
      { t with chans := s.chans, drt := s.drt, port := s.port, fu := s.fu, du := s.du } = s

/-- Qualification completes with PWRWARN not asserted: the channel enters CHECKING and the record's attempts, last site,
state and stamp are written, on the state `u` in which the accesses that came before this one have been taken, which is the
state it meets when none waits; with PWRWARN asserted the counter stands at settle and nothing else changes (R44, R55, R106,
R109). That the access is taken in this step, after those before it, is log 12. -/
def Obligations.QualificationBeginsTheBlankCheck : Prop :=
  ∀ (k : Site) (sn : Snapshot) (s v u : State), s.powered = true →
    (s.chan k).state = .qualifying → (s.chan k).contact = true → (s.chan k).snapshot = some sn →
    v = { s with chans := s.chans.set k { s.chan k with qualCounter := sn.profile.settle } } → u = v.drainFor k true →
    (s.pwrwarn = true → exec (.qualificationComplete k) s = .next v) ∧
    ((∀ e ∈ s.port, e.moment = s.now ∧ ¬(e.site = k ∧ e.access.byChannel = true)) → u = v) ∧
    ∀ (l : SlotId) (x : Taking) (r : DieRecord), s.pwrwarn = false → (u.chan k).burning = some l →
      ((u.chan k).slot l).taking = some x → u.drt.records[x.idx]? = some r →
      ∃ t, exec (.qualificationComplete k) s = .next t ∧
        t.chan k = { u.chan k with
          state := .checking
          readSoFar := 0
          measured := 0
          readImage := none
          lockRead := none
          lookupWait := false } ∧
        t.drt.records = u.drt.records.set x.idx
          { r with attempts := r.attempts + 1, lastSite := some k, state := .burning, stamp := u.lc.clock } ∧
        t.drt.marks = u.drt.marks.setIfInBounds (x.idx / 64) true ∧ t.drt.posMap = u.drt.posMap ∧
        (r.state = .reserved → t.drt.counts = { u.drt.counts with
          reserved := u.drt.counts.reserved - 1
          burning := u.drt.counts.burning + 1 }) ∧
        (∀ j, j ≠ k → t.chan j = u.chan j) ∧ { t with chans := u.chans, drt := u.drt } = u

/-- A qualify timeout ends the burn NO CONTACT: no write to the record, the slot STAGED with its image, fault 31, the
snapshot discarded, the BURN answered with the bounce count (R107, R118, R119). -/
def Obligations.QualifyTimeoutEndsWithoutContact : Prop :=
  ∀ (k : Site) (l : SlotId) (x : Taking) (r : DieRecord) (b : BurnReq) (s : State), s.powered = true →
    (s.chan k).state = .qualifying → (s.chan k).burning = some l → ((s.chan k).slot l).taking = some x →
    ((s.chan k).slot l).state = .burning → s.drt.records[x.idx]? = some r → (s.site k).burn = some b →
    (s.site k).aborts = [] →
    ∃ t, exec (.qualifyTimeout k) s = .next t ∧
      Channel.LeftBy l .noContact (s.chan k) (t.chan k) ∧ ((t.chan k).slot l).state = .staged ∧
      t.fu = s.fu.take ⟨31, some k, some x.pos, 0x03, s.lc.clock⟩ ∧
      t.site k = { s.site k with
        burn := none
        io := { (s.site k).io with
          replies := (s.site k).io.replies ++
            [⟨0x03, b.tag, [91, posWord x.pos, wordOf x.idx, hiWord x.serial, loWord x.serial, 0,
              wordOf (classCode (s.chan k).cls), wordOf (s.chan k).attPulses, wordOf (s.chan k).attBits,
              wordOf r.attempts, wordOf (s.chan k).bounce]⟩] } } ∧
      (∀ j, j ≠ k → t.chan j = s.chan j ∧ t.site j = s.site j) ∧
      { t with chans := s.chans, fu := s.fu, sites := s.sites } = s

/-- A blank-check measurement of an array fuse records whether its corrected code reaches TR; the 353rd forms R and L,
places the class: a BLANK or PARTIAL die goes to PROGRAMMING on the first missing fuse with a pulse of W0, a COMPLETE
one ends LOCKED, ends VERIFIED with the lock option clear, or goes to LOCKING, one in CONFLICT ends FUSE CONFLICT, and one
of OTHER IDENTITY has its serial looked up if it passes tests 1 to 6 of adoption and else ends FOREIGN DIE. A measurement
that runs out under an ending fixed by an interruption is discarded and the burn ends with it. The five classes are those
of R76, the first that holds; a remaining set is the image's 1-bits, of a PARTIAL die those that read 0, taken in rising
fuse order; adoption tests validity, lot tag, position, committed range, another serial and a first attempt without pulses;
a corrected code is code plus offset held in 0 to 1023 (R70, R75, R76, R77, R109, R110, R111, R112, R114, R121, R122, R124,
R128). -/
def Obligations.BlankCheckReadsAndClassifies : Prop :=
  (∀ (r i : Image) (one : Bool), classify r one i =
    if (∀ n : Fin 352, fuse r n = false) ∧ one = false then .blank
    else if r = i then .complete
    else if foldedSum (imageWords r) = 65535 ∨ one = true then .otherIdentity
    else if ∀ n : Fin 352, fuse r n = true → fuse i n = true then .partialImage
    else .conflict) ∧
  (∀ (r i : Image) (n : Nat), fuse (remainingSet .blank r i) n = fuse i n ∧
    fuse (remainingSet .partialImage r i) n = (fuse i n && !fuse r n) ∧
    (firstFuse i = some n ↔ fuse i n = true ∧ ∀ m, m < n → fuse i m = false)) ∧
  (∀ (code : BitVec 10) (off : Int), (correctedCode code off : Int) =
    if code.toNat + off < 0 then 0 else if 1023 < code.toNat + off then 1023 else code.toNat + off) ∧
  (∀ (x : Taking) (r : Image) (n : Serial) (s : State), n = joinWords (imageWord r 0) (imageWord r 1) →
    (s.adoptable x r = true ↔ foldedSum (imageWords r) = 65535 ∧ imageWord r 2 = s.lc.header.lotTag ∧
      imageWord r 3 = posWord x.pos ∧ s.lc.header.first.toNat ≤ n.toNat ∧
      n.toNat < s.lc.header.first.toNat + min (16 * s.sa.mark) s.lc.header.count.toNat ∧ n ≠ x.serial ∧
      ∃ rec, s.drt.records[x.idx]? = some rec ∧ rec.attempts = 1 ∧ rec.pulses = 0)) ∧
  (∀ (k : Site) (code : BitVec 10) (l : SlotId) (x : Taking) (e : Ending) (sn : Snapshot) (s : State),
    s.powered = true → (s.chan k).state = .checking → (s.chan k).snapshot = some sn →
    (s.chan k).lookupWait = false → Channel.FixedBy l x e (s.chan k) →
    ∃ t, exec (.blankCheckMeasurement k code) s = .next t ∧
      Channel.EndedBy l x e false (s.chan k) (t.chan k) ∧ State.EndsAt k .ending s t ∧
      t.fu = s.fu.fixedEnding k x.pos s.lc.clock e ∧ (∀ j, j ≠ k → t.chan j = s.chan j) ∧
      { t with chans := s.chans, port := s.port, fu := s.fu, du := s.du } = s) ∧
  ∀ (k : Site) (code : BitVec 10) (sn : Snapshot) (s : State), s.powered = true → (s.chan k).state = .checking →
    (s.chan k).snapshot = some sn → (s.chan k).lookupWait = false → (s.chan k).ending = none →
    ((s.chan k).measured < 352 →
      ∃ t, exec (.blankCheckMeasurement k code) s = .next t ∧
        t.chan k = { s.chan k with
          measured := (s.chan k).measured + 1
          readSoFar := if sn.profile.tr ≤ correctedCode code (s.chan k).offset
            then (s.chan k).readSoFar ||| fuseBit (s.chan k).measured else (s.chan k).readSoFar } ∧
        (∀ j, j ≠ k → t.chan j = s.chan j) ∧ { t with chans := s.chans } = s) ∧
    ∀ (l : SlotId) (x : Taking) (i : Image) (one : Bool) (cl : DieClass), (s.chan k).measured = 352 →
      (s.chan k).burning = some l → ((s.chan k).slot l).taking = some x → ((s.chan k).slot l).image = some i →
      one = decide (sn.profile.tr ≤ correctedCode code (s.chan k).offset) →
      cl = classify (s.chan k).readSoFar one i →
      (∀ n, cl = .blank ∨ cl = .partialImage → firstFuse (remainingSet cl (s.chan k).readSoFar i) = some n →
        ∃ t, exec (.blankCheckMeasurement k code) s = .next t ∧
          t.chan k = { s.chan k with
            state := .programming
            readImage := some (s.chan k).readSoFar
            lockRead := some one
            cls := some cl
            measured := 353
            remaining := remainingSet cl (s.chan k).readSoFar i
            curFuse := some (.array n)
            curWidth := sn.profile.w0
            curPulses := 0
            driving := false
            measuring := false } ∧
          (∀ j, j ≠ k → t.chan j = s.chan j) ∧ { t with chans := s.chans } = s) ∧
      (cl = .complete → one = false → lockOption i = true →
        ∃ t, exec (.blankCheckMeasurement k code) s = .next t ∧
          t.chan k = { s.chan k with
            state := .locking
            readImage := some (s.chan k).readSoFar
            lockRead := some one
            cls := some cl
            measured := 353
            curFuse := some .lock
            curWidth := sn.profile.w0
            curPulses := 0
            driving := false
            measuring := false } ∧
          (∀ j, j ≠ k → t.chan j = s.chan j) ∧ { t with chans := s.chans } = s) ∧
      (cl = .otherIdentity → s.adoptable x (s.chan k).readSoFar = true →
        ∃ t, exec (.blankCheckMeasurement k code) s = .next t ∧
          t.chan k = { s.chan k with
            readImage := some (s.chan k).readSoFar
            lockRead := some one
            cls := some cl
            measured := 353
            lookupWait := true } ∧
          t.port = s.port ++ [{ access := .serialLookup, site := k, moment := s.now }] ∧
          (∀ j, j ≠ k → t.chan j = s.chan j) ∧ { t with chans := s.chans, port := s.port } = s) ∧
      ∀ e : Ending,
        (cl = .complete ∧ one = true ∧ e = .locked) ∨
          (cl = .complete ∧ one = false ∧ lockOption i = false ∧ e = .verified) ∨
          (cl = .otherIdentity ∧ s.adoptable x (s.chan k).readSoFar = false ∧ e = .foreignDie) ∨
          (cl = .conflict ∧ e = .fuseConflict) →
        ∃ t, exec (.blankCheckMeasurement k code) s = .next t ∧
          Channel.EndedBy l x e false
            { s.chan k with
              readImage := some (s.chan k).readSoFar
              lockRead := some one
              cls := some cl
              measured := 353 } (t.chan k) ∧
          State.EndsAt k .ending s t ∧
          t.fu = (if e = .fuseConflict then s.fu.take ⟨42, some k, some x.pos, 0x03, s.lc.clock⟩ else s.fu) ∧
          (∀ j, j ≠ k → t.chan j = s.chan j) ∧
          { t with chans := s.chans, port := s.port, fu := s.fu, du := s.du } = s

/-- A full-width pulse ends: it is counted at the channel and in the record; in regulation its measurement follows, out of
regulation the burn ends DRIVER FAULT with fault 51 and the channel HALTED. So it is under an ending fixed by an
interruption, but that the burn out of regulation ends with that ending, with fault 51 and the ending's own (R56, R114,
R118, R121, R122, R123, R124, R125). That a pulse no tick saw begin has begun with its end is the model's choice, log 37,
and so is the order of the two faults, log 40. -/
def Obligations.PulseEndIsCounted : Prop :=
  ∀ (k : Site) (l : SlotId) (x : Taking) (s : State), s.powered = true →
    (s.chan k).state = .programming ∨ (s.chan k).state = .locking → (s.chan k).measuring = false →
    (s.chan k).burning = some l → ((s.chan k).slot l).taking = some x →
    (∀ e, (s.chan k).ending = none ∨ Channel.FixedBy l x e (s.chan k) →
      ∃ t, exec (.pulseEnd k true) s = .next t ∧
      t.chan k = { s.chan k with
        curPulses := (s.chan k).curPulses + 1
        attPulses := (s.chan k).attPulses + 1
        driving := false
        measuring := true } ∧
      t.drt = s.drt.modify x.idx (fun r => { r with pulses := min 65535 (r.pulses + 1) }) ∧
      (∀ j, j ≠ k → t.chan j = s.chan j) ∧ { t with chans := s.chans, drt := s.drt } = s) ∧
    ((s.chan k).ending = none → ∃ t, exec (.pulseEnd k false) s = .next t ∧
      Channel.EndedBy l x .driverFault true
        { s.chan k with curPulses := (s.chan k).curPulses + 1, attPulses := (s.chan k).attPulses + 1 } (t.chan k) ∧
      t.drt = s.drt.modify x.idx (fun r => { r with pulses := min 65535 (r.pulses + 1) }) ∧
      State.EndsAt k .ending s t ∧
      t.fu = s.fu.take ⟨51, some k, some x.pos, 0x03, s.lc.clock⟩ ∧ (∀ j, j ≠ k → t.chan j = s.chan j) ∧
      { t with chans := s.chans, drt := s.drt, port := s.port, fu := s.fu, du := s.du } = s) ∧
    ∀ e, Channel.FixedBy l x e (s.chan k) → ∃ t, exec (.pulseEnd k false) s = .next t ∧
      Channel.EndedBy l x e true
        { s.chan k with curPulses := (s.chan k).curPulses + 1, attPulses := (s.chan k).attPulses + 1 } (t.chan k) ∧
      t.drt = s.drt.modify x.idx (fun r => { r with pulses := min 65535 (r.pulses + 1) }) ∧
      State.EndsAt k .ending s t ∧
      t.fu = (s.fu.take ⟨51, some k, some x.pos, 0x03, s.lc.clock⟩).fixedEnding k x.pos s.lc.clock e ∧
      (∀ j, j ≠ k → t.chan j = s.chan j) ∧
      { t with chans := s.chans, drt := s.drt, port := s.port, fu := s.fu, du := s.du } = s

/-- The measurement after a pulse: at or above TP the fuse is accepted, counted and written, and the next missing fuse
or the final verify follows, and an accepted lock fuse ends the burn LOCKED; below TP with pulses left the width grows to
ceil(w × g / 8), at most Wmax; at Pmax pulses the burn ends BIT OPEN with fault 41, or LOCK OPEN with fault 44 on the
lock fuse. Under an ending fixed by an interruption an acceptance is counted and written as usual, no further pulse is
applied and the burn ends with that ending (R114, R115, R117, R121, R122, R124). -/
def Obligations.FuseMeasurementDecides : Prop :=
  ∀ (k : Site) (l : SlotId) (x : Taking) (code : BitVec 10) (f : Fuse) (sn : Snapshot) (s : State),
    s.powered = true → (s.chan k).state = .programming ∨ (s.chan k).state = .locking →
    (s.chan k).measuring = true → (s.chan k).curFuse = some f → (s.chan k).snapshot = some sn →
    (s.chan k).burning = some l → ((s.chan k).slot l).taking = some x →
    (∀ e, Channel.FixedBy l x e (s.chan k) → ∃ t, exec (.fuseMeasurementDone k code) s = .next t ∧
      Channel.EndedBy l x e false
        { s.chan k with
          attBits := (s.chan k).attBits +
            if sn.profile.tp ≤ correctedCode code (s.chan k).offset then 1 else 0 } (t.chan k) ∧
      t.drt = (if sn.profile.tp ≤ correctedCode code (s.chan k).offset
        then s.drt.modify x.idx (fun r => { r with bits := min 353 (r.bits + 1) }) else s.drt) ∧
      State.EndsAt k .ending s t ∧ t.fu = s.fu.fixedEnding k x.pos s.lc.clock e ∧
      (∀ j, j ≠ k → t.chan j = s.chan j) ∧
      { t with chans := s.chans, drt := s.drt, port := s.port, fu := s.fu, du := s.du } = s) ∧
    ((s.chan k).ending = none →
    (∀ n n', f = .array n → sn.profile.tp ≤ correctedCode code (s.chan k).offset →
      firstFuse ((s.chan k).remaining &&& ~~~fuseBit n) = some n' →
      ∃ t, exec (.fuseMeasurementDone k code) s = .next t ∧
        t.chan k = { s.chan k with
          attBits := (s.chan k).attBits + 1
          remaining := (s.chan k).remaining &&& ~~~fuseBit n
          curFuse := some (.array n')
          curWidth := sn.profile.w0
          curPulses := 0
          driving := false
          measuring := false } ∧
        t.drt = s.drt.modify x.idx (fun r => { r with bits := min 353 (r.bits + 1) }) ∧
        (∀ j, j ≠ k → t.chan j = s.chan j) ∧ { t with chans := s.chans, drt := s.drt } = s) ∧
    (∀ n, f = .array n → sn.profile.tp ≤ correctedCode code (s.chan k).offset →
      firstFuse ((s.chan k).remaining &&& ~~~fuseBit n) = none →
      ∃ t, exec (.fuseMeasurementDone k code) s = .next t ∧
        t.chan k = { s.chan k with
          state := .verifying
          attBits := (s.chan k).attBits + 1
          remaining := (s.chan k).remaining &&& ~~~fuseBit n
          curFuse := none
          driving := false
          measuring := false
          readSoFar := 0
          measured := 0 } ∧
        t.drt = s.drt.modify x.idx (fun r => { r with bits := min 353 (r.bits + 1) }) ∧
        (∀ j, j ≠ k → t.chan j = s.chan j) ∧ { t with chans := s.chans, drt := s.drt } = s) ∧
    (f = .lock → sn.profile.tp ≤ correctedCode code (s.chan k).offset →
      ∃ t, exec (.fuseMeasurementDone k code) s = .next t ∧
        Channel.EndedBy l x .locked false { s.chan k with attBits := (s.chan k).attBits + 1 } (t.chan k) ∧
        t.drt = s.drt.modify x.idx (fun r => { r with bits := min 353 (r.bits + 1) }) ∧
        State.EndsAt k .ending s t ∧ (∀ j, j ≠ k → t.chan j = s.chan j) ∧
        { t with chans := s.chans, drt := s.drt, port := s.port, du := s.du } = s) ∧
    (correctedCode code (s.chan k).offset < sn.profile.tp → (s.chan k).curPulses < sn.profile.pmax →
      ∃ t, exec (.fuseMeasurementDone k code) s = .next t ∧
        t.chan k = { s.chan k with
          curWidth := min sn.profile.wmax (((s.chan k).curWidth * sn.profile.g + 7) / 8)
          driving := false
          measuring := false } ∧
        (∀ j, j ≠ k → t.chan j = s.chan j) ∧ { t with chans := s.chans } = s) ∧
    (correctedCode code (s.chan k).offset < sn.profile.tp → sn.profile.pmax ≤ (s.chan k).curPulses →
      ∃ t, exec (.fuseMeasurementDone k code) s = .next t ∧
        Channel.EndedBy l x (if f = .lock then .lockOpen else .bitOpen) false (s.chan k) (t.chan k) ∧
        State.EndsAt k .ending s t ∧
        t.fu = s.fu.take ⟨if f = .lock then 44 else 41, some k, some x.pos, 0x03, s.lc.clock⟩ ∧
        (∀ j, j ≠ k → t.chan j = s.chan j) ∧
        { t with chans := s.chans, port := s.port, fu := s.fu, du := s.du } = s))

/-- A final-verify measurement before the last only records its fuse; the last compares the read with the image: a stray
1 ends FUSE CONFLICT with fault 42, a missing 1 ends VERIFY LOSS with fault 43, and an equal read goes to LOCKING with the
lock option set and ends VERIFIED with it clear. A measurement that runs out under an ending fixed by an interruption is
discarded and the burn ends with it (R116, R117, R121, R122, R124). -/
def Obligations.FinalVerifyDecides : Prop :=
  (∀ (k : Site) (code : BitVec 10) (l : SlotId) (x : Taking) (e : Ending) (sn : Snapshot) (s : State),
    s.powered = true → (s.chan k).state = .verifying → (s.chan k).snapshot = some sn →
    Channel.FixedBy l x e (s.chan k) →
    ∃ t, exec (.verifyMeasurement k code) s = .next t ∧
      Channel.EndedBy l x e false (s.chan k) (t.chan k) ∧ State.EndsAt k .ending s t ∧
      t.fu = s.fu.fixedEnding k x.pos s.lc.clock e ∧ (∀ j, j ≠ k → t.chan j = s.chan j) ∧
      { t with chans := s.chans, port := s.port, fu := s.fu, du := s.du } = s) ∧
  ∀ (k : Site) (l : SlotId) (x : Taking) (i r : Image) (code : BitVec 10) (sn : Snapshot) (s : State),
    s.powered = true → (s.chan k).state = .verifying → (s.chan k).ending = none → (s.chan k).snapshot = some sn →
    (s.chan k).burning = some l → ((s.chan k).slot l).taking = some x → ((s.chan k).slot l).image = some i →
    r = (if sn.profile.tr ≤ correctedCode code (s.chan k).offset
      then (s.chan k).readSoFar ||| fuseBit (s.chan k).measured else (s.chan k).readSoFar) →
    ((s.chan k).measured < 351 →
      ∃ t, exec (.verifyMeasurement k code) s = .next t ∧
        t.chan k = { s.chan k with measured := (s.chan k).measured + 1, readSoFar := r } ∧
        (∀ j, j ≠ k → t.chan j = s.chan j) ∧ { t with chans := s.chans } = s) ∧
    ((s.chan k).measured = 351 → r = i → lockOption i = true →
      ∃ t, exec (.verifyMeasurement k code) s = .next t ∧
        t.chan k = { s.chan k with
          state := .locking
          measured := 352
          readSoFar := r
          curFuse := some .lock
          curWidth := sn.profile.w0
          curPulses := 0
          driving := false
          measuring := false } ∧
        (∀ j, j ≠ k → t.chan j = s.chan j) ∧ { t with chans := s.chans } = s) ∧
    ∀ (e : Ending) (fault : Option Nat), (s.chan k).measured = 351 →
      (if ∃ n : Fin 352, fuse r n = true ∧ fuse i n = false then e = .fuseConflict ∧ fault = some 42
        else if r ≠ i then e = .verifyLoss ∧ fault = some 43
        else lockOption i = false ∧ e = .verified ∧ fault = none) →
      ∃ t, exec (.verifyMeasurement k code) s = .next t ∧
        Channel.EndedBy l x e false { s.chan k with measured := 352, readSoFar := r } (t.chan k) ∧
        State.EndsAt k .ending s t ∧
        t.fu = (match fault with
          | some n => s.fu.take ⟨n, some k, some x.pos, 0x03, s.lc.clock⟩
          | none => s.fu) ∧
        (∀ j, j ≠ k → t.chan j = s.chan j) ∧
        { t with chans := s.chans, port := s.port, fu := s.fu, du := s.du } = s

/-- Calibration measurements: the first three are kept; the fourth, with A = floor((S + 2) / 4) and d = 512 − A, sets
CALIBRATED, LIMITED or FAILED by the size of d with offset, degraded flag, fault and channel state. A CALIBRATE that
waits for it is answered with result, offset, degraded flag and readings; a LOAD WAFER that awaits it notes the
result, and is answered with the wafer ACTIVE when nothing more is awaited; a BURN that waits for it is checked again
as one that arrives then, once a CALIBRATE that waits beside it has been answered (R15, R103, R131, R132). That LOAD
WAFER's reply gives each channel's offset as it stands then, of one not run too, is the model's choice, log 25. -/
def Obligations.CalibrationSetsTheOffset : Prop :=
  ∀ (k : Site) (kind : Byte) (codes : List (BitVec 10)) (e : BitVec 10) (s : State), s.powered = true →
    (s.chan k).state = .calibrating → (s.chan k).calRun = some { codes := codes, kind := kind } →
    (codes.length < 3 →
      exec (.calibrationMeasurement k e) s = .next { s with
        chans := s.chans.set k { s.chan k with calRun := some { codes := codes ++ [e], kind := kind } } }) ∧
    ∀ (a b c : BitVec 10) (A : Nat) (d off : Int) (deg : Bool) (r : CalResult) (u : State), codes = [a, b, c] →
      A = (a.toNat + b.toNat + c.toNat + e.toNat + 2) / 4 → d = 512 - A →
      (-7 ≤ d ∧ d ≤ 7 ∧ r = .calibrated ∧ off = d ∧ deg = false) ∨
        (7 < d ∧ d ≤ 48 ∧ r = .limited ∧ off = 7 ∧ deg = true) ∨
        (-48 ≤ d ∧ d < -7 ∧ r = .limited ∧ off = -7 ∧ deg = true) ∨
        ((48 < d ∨ d < -48) ∧ r = .failed ∧ off = (s.chan k).offset ∧ deg = (s.chan k).degraded) →
      u = { s with
        chans := s.chans.set k { s.chan k with
          state := if r = .failed then .halted else .idle
          offset := off
          degraded := deg
          calResult := some r
          calReadings := some { codes := [a, b, c, e], average := A, deviation := d }
          calRun := none }
        fu := match r with
          | .calibrated => s.fu
          | .limited => s.fu.take ⟨21, some k, none, kind, s.lc.clock⟩
          | .failed => s.fu.take ⟨22, some k, none, kind, s.lc.clock⟩ } →
      ((∀ q, s.sup.lane = some q → q.task ≠ .calibrate k) → (∀ b, (s.site k).burn = some b → b.waitsCal = false) →
        (s.lc.load = none → exec (.calibrationMeasurement k e) s = .next u) ∧
        ∀ (ctx : LoadCtx) (cal : Four CalReport), s.lc.load = some ctx → ctx.cal.get k = .awaited →
          s.resetWaiting = false → cal = ctx.cal.set k (.ran r) →
          (ctx.journalDone = false ∨ (∃ j, cal.get j = .awaited) →
            exec (.calibrationMeasurement k e) s =
              .next { u with lc := { s.lc with load := some { ctx with cal := cal } } }) ∧
          ∀ q, ctx.journalDone = true → (∀ j, cal.get j ≠ .awaited) → s.sup.lane = some q →
            exec (.calibrationMeasurement k e) s = .next { u with
              lc := { s.lc with wafer := .active, load := none }
              sup := { lane := none, io := { s.sup.io with replies := s.sup.io.replies ++
                [⟨q.kind, q.tag, [0, wordOf s.lc.waferNumber, if ctx.reload then 1 else 0,
                  wordOf (cal.get 0).code, signedWord (u.chan 0).offset,
                  wordOf (cal.get 1).code, signedWord (u.chan 1).offset,
                  wordOf (cal.get 2).code, signedWord (u.chan 2).offset,
                  wordOf (cal.get 3).code, signedWord (u.chan 3).offset]⟩] } } }) ∧
      ∀ su : SupLink, s.lc.load = none →
        (∀ q, s.sup.lane = some q → q.task = .calibrate k →
          su = { lane := none, io := { s.sup.io with replies := s.sup.io.replies ++
            [⟨q.kind, q.tag, [0, wordOf r.code, signedWord off, if deg then 1 else 0, a.setWidth 16, b.setWidth 16,
              c.setWidth 16, e.setWidth 16, wordOf A, signedWord d]⟩] } }) →
        ((∀ q, s.sup.lane = some q → q.task ≠ .calibrate k) → su = s.sup) →
        ((∀ b, (s.site k).burn = some b → b.waitsCal = false) →
          exec (.calibrationMeasurement k e) s = .next { u with sup := su }) ∧
        ∀ (b : BurnReq) (v : State), (s.site k).burn = some b → b.waitsCal = true →
          v = { u with sup := su, sites := s.sites.set k { s.site k with burn := none } } → v.SiteReady k →
          v.Admits b.pos → exec (.calibrationMeasurement k e) s = exec (.burn k b.tag b.pos) v

/-- A slot's derivation completes: the slot, DERIVING, assembles its image with the derived key and becomes STAGED; a
channel WAITING for it begins qualification with the offered profile. A derivation marked for discard completes into
nothing: its slot only loses discard pending. An adoption derivation ends the burn with the adoption access placed when
all 16 key words match, and FOREIGN DIE when one differs. Each time the next derivation is chosen among those queued (R82,
R91, R93, R94, R95, R105, R113). -/
def Obligations.DerivationsAreDelivered : Prop :=
  (∀ (k : Site) (l : SlotId) (n : Serial) (p : Pos) (tag : Word) (secret : Key) (image : Image) (s : State),
     s.powered = true →
     s.du.current = some { entry := .slot k l n p tag, secret := secret, discard := false } →
     ((s.chan k).slot l).state = .deriving →
     image = assembleImage n tag p s.lc.header.options (Config.derivation secret tag n p.col p.row) →
     ∃ t, exec .derivationComplete s = .next t ∧ t.du = s.nextDerivation s.du.queue ∧
       (¬((s.chan k).state = .waiting ∧ (s.chan k).burning = some l) →
         t.chan k = (s.chan k).setSlot l { (s.chan k).slot l with state := .staged, image := some image }) ∧
       ((s.chan k).state = .waiting → (s.chan k).burning = some l →
         t.chan k =
           { (s.chan k).setSlot l { (s.chan k).slot l with state := .burning, image := some image } with
             state := .qualifying
             snapshot := some { profile := s.ps.profile, gen := s.ps.gen }
             qualCounter := 0
             bounce := 0
             qualTimer := 0 }) ∧
       (∀ j, j ≠ k → t.chan j = s.chan j) ∧ { t with chans := s.chans, du := s.du } = s) ∧
  ∀ (k : Site) (l : SlotId) (n : Serial) (p : Pos) (tag : Word) (secret : Key) (s : State), s.powered = true →
    (s.du.current = some { entry := .slot k l n p tag, secret := secret, discard := true } →
      ∃ t, exec .derivationComplete s = .next t ∧ t.du = s.nextDerivation s.du.queue ∧
        t.chan k = (s.chan k).setSlot l { (s.chan k).slot l with discardPending := false } ∧
        (∀ j, j ≠ k → t.chan j = s.chan j) ∧ { t with chans := s.chans, du := s.du } = s) ∧
    ∀ (i : Image) (x : Taking),
      s.du.current = some { entry := .adopt k n p tag, secret := secret, discard := false } →
      (s.chan k).state = .adoptWait → (s.chan k).readImage = some i → (s.chan k).burning = some l →
      ((s.chan k).slot l).taking = some x →
      ∃ t, exec .derivationComplete s = .next t ∧
        Channel.EndedBy l x
          (if Config.derivation secret tag n p.col p.row = readKey i then .adopted else .foreignDie) false (s.chan k)
          (t.chan k) ∧
        t.port = s.port.filter (fun e => !(e.site == k && e.access == .serialLookup)) ++
          [{ access := if Config.derivation secret tag n p.col p.row = readKey i then .adoption else .ending
             site := k, moment := s.now }] ∧
        t.du = s.nextDerivation (s.du.queue.filter fun e => !e.isAdopt k) ∧
        (∀ j, j ≠ k → t.chan j = s.chan j) ∧ { t with chans := s.chans, du := s.du, port := s.port } = s

/-! ### Lots and wafers -/

/-- OPEN LOT with valid arguments in EMPTY or CLOSED stores secret and header, enters OPENING and starts the fingerprint
derivation; invalid arguments are answered BAD LOT and another lot state LOT ACTIVE, with nothing else changed. The
fingerprint is stored and the ten word writes are queued in the order R5 gives, the first begun at once when the journal
is free (R4, R5, R143, R145). -/
def Obligations.OpenLotBegins : Prop :=
  (∀ (tag : Byte) (lotTag : Word) (first count : BitVec 32) (options : Word) (secret : Key) (s : State), s.SupReady →
     (s.lc.lotState ≠ .empty → s.lc.lotState ≠ .closed →
       exec (.openLot tag lotTag first count options secret) s = .next (s.reply .supervisor ⟨0x20, tag, [34]⟩)) ∧
     (s.lc.lotState = .empty ∨ s.lc.lotState = .closed →
       (lotTag = 0 ∨ first = 0 ∨ count = 0 ∨ 1048560 < count.toNat ∨ 4294967296 < first.toNat + count.toNat ∨
         options &&& 0x0F00 ≠ 0x0100 ∨ options &&& 0x70F0 ≠ 0 →
         exec (.openLot tag lotTag first count options secret) s = .next (s.reply .supervisor ⟨0x20, tag, [35]⟩)) ∧
       (lotTag ≠ 0 → first ≠ 0 → count ≠ 0 → count.toNat ≤ 1048560 → first.toNat + count.toNat ≤ 4294967296 →
         options &&& 0x0F00 = 0x0100 → options &&& 0x70F0 = 0 → s.du.current = none → s.du.queue = [] →
         exec (.openLot tag lotTag first count options secret) s = .next { s with
           lc := { s.lc with
             secret := some secret
             header := { lotTag := lotTag, first := first, count := count, options := options, fp1 := 0, fp2 := 0 }
             before := s.lc.lotState
             lotState := .opening }
           du := { s.du with
             current := some { entry := .fingerprint lotTag, secret := secret, discard := false } }
           sup := { s.sup with lane := some { kind := 0x20, tag := tag, task := .plain } } }))) ∧
  ∀ (lotTag : Word) (secret key : Key) (s : State), s.powered = true → s.lc.lotState = .opening →
    s.du.current = some { entry := .fingerprint lotTag, secret := secret, discard := false } → s.du.queue = [] →
    key = Config.derivation secret lotTag 0 0 0 → s.js.queue = [] → s.js.write = none → s.js.held = false →
    s.js.stopped = false →
    ∃ t, exec .derivationComplete s = .next t ∧
      t.lc = { s.lc with header := { s.lc.header with fp1 := key.extractLsb' 240 16, fp2 := key.extractLsb' 224 16 } } ∧
      t.js.write = some { entry := .header 1 s.lc.header.lotTag, value := s.lc.header.lotTag, second := false,
                          phase := .erase, elapsed := 0 } ∧
      t.js.queue = [.header 2 (hiWord s.lc.header.first), .header 3 (loWord s.lc.header.first),
        .header 4 (hiWord s.lc.header.count), .header 5 (loWord s.lc.header.count), .header 6 s.lc.header.options,
        .header 7 (key.extractLsb' 240 16), .header 8 (key.extractLsb' 224 16), .header 9 0, .lotState 1] ∧
      t.js.words = s.js.words ∧ t.js.held = s.js.held ∧ t.js.warningSeen = s.js.warningSeen ∧
      t.js.stopped = s.js.stopped ∧ t.js.rideMirror = s.js.rideMirror ∧ t.du = { s.du with current := none } ∧
      { t with lc := s.lc, js := s.js, du := s.du } = s

/-- RESUME LOT is answered NO LOT in EMPTY and CLOSED, LOT ACTIVE in OPENING, OPEN, RESUMING and CLOSING, and BAD LOT
for another tag than the stored one, with nothing changed. Of a SUSPENDED lot with its own tag it stores the secret,
enters RESUMING and starts the fingerprint derivation, whose match opens the lot; a mismatch erases the secret (R7).
-/
def Obligations.ResumeLotProvesTheSecret : Prop :=
  (∀ (tag : Byte) (lotTag : Word) (secret : Key) (s : State), s.SupReady →
    (s.lc.lotState = .empty ∨ s.lc.lotState = .closed →
      exec (.resumeLot tag lotTag secret) s = .next (s.reply .supervisor ⟨0x21, tag, [33]⟩)) ∧
    (s.lc.lotState ∈ [LotState.opening, .isOpen, .resuming, .closing] →
      exec (.resumeLot tag lotTag secret) s = .next (s.reply .supervisor ⟨0x21, tag, [34]⟩)) ∧
    (s.lc.lotState = .suspended → lotTag ≠ s.lc.header.lotTag →
      exec (.resumeLot tag lotTag secret) s = .next (s.reply .supervisor ⟨0x21, tag, [35]⟩))) ∧
  (∀ (tag : Byte) (secret : Key) (s : State), s.SupReady → s.lc.lotState = .suspended → s.du.current = none →
    s.du.queue = [] →
    exec (.resumeLot tag s.lc.header.lotTag secret) s = .next { s with
      lc := { s.lc with secret := some secret, lotState := .resuming }
      du := { s.du with
        current := some { entry := .fingerprint s.lc.header.lotTag, secret := secret, discard := false } }
      sup := { s.sup with lane := some { kind := 0x21, tag := tag, task := .plain } } }) ∧
  ∀ (q : SupReqState) (lotTag : Word) (secret key : Key) (s : State), s.powered = true → s.lc.lotState = .resuming →
    s.sup.lane = some q → s.du.current = some { entry := .fingerprint lotTag, secret := secret, discard := false } →
    s.du.queue = [] → key = Config.derivation secret lotTag 0 0 0 →
    ((key.extractLsb' 240 16 = s.lc.header.fp1 ∧ key.extractLsb' 224 16 = s.lc.header.fp2) →
      ∃ t, exec .derivationComplete s = .next t ∧ t.lc = { s.lc with lotState := .isOpen } ∧
        t.sup = { lane := none, io := { s.sup.io with replies := s.sup.io.replies ++ [⟨q.kind, q.tag, [0]⟩] } } ∧
        t.du = { s.du with current := none } ∧ { t with lc := s.lc, sup := s.sup, du := s.du } = s) ∧
    (¬(key.extractLsb' 240 16 = s.lc.header.fp1 ∧ key.extractLsb' 224 16 = s.lc.header.fp2) →
      ∃ t, exec .derivationComplete s = .next t ∧ t.lc = { s.lc with secret := none, lotState := .suspended } ∧
        t.sup = { lane := none, io := { s.sup.io with replies := s.sup.io.replies ++ [⟨q.kind, q.tag, [36]⟩] } } ∧
        t.du = { s.du with current := none } ∧ { t with lc := s.lc, sup := s.sup, du := s.du } = s)

/-- CLOSE LOT is answered NO LOT in EMPTY and CLOSED, LOT ACTIVE in OPENING, RESUMING and CLOSING, WAFER ACTIVE with a
wafer LOADING or ACTIVE, and JOURNAL BUSY with an advance on the queue or in progress, with nothing changed. Else,
whatever other writes the journal holds and whether it is held or not, it counts the serials left in the current and
READY blocks of all sites, clears the blocks, enters CLOSING and places word 0 with CLOSED at the queue's tail, begun
at once where it may (R9, R10, R11, R34, R143, R145). -/
def Obligations.CloseLotBegins : Prop :=
  ∀ (tag : Byte) (s : State), s.SupReady →
    (s.lc.lotState = .empty ∨ s.lc.lotState = .closed →
      exec (.closeLot tag) s = .next (s.reply .supervisor ⟨0x22, tag, [33]⟩)) ∧
    (s.lc.lotState ∈ [LotState.opening, .resuming, .closing] →
      exec (.closeLot tag) s = .next (s.reply .supervisor ⟨0x22, tag, [34]⟩)) ∧
    (s.lc.lotState = .isOpen ∨ s.lc.lotState = .suspended → s.lc.wafer = .loading ∨ s.lc.wafer = .active →
      exec (.closeLot tag) s = .next (s.reply .supervisor ⟨0x22, tag, [41]⟩)) ∧
    (s.lc.lotState = .isOpen ∨ s.lc.lotState = .suspended → s.lc.wafer = .none ∨ s.lc.wafer = .closed →
      ((∃ k, JEntry.advance k ∈ s.js.queue ∨ ∃ w, s.js.write = some w ∧ w.entry = .advance k) →
        exec (.closeLot tag) s = .next (s.reply .supervisor ⟨0x22, tag, [37]⟩)) ∧
      ∀ left : Site → Nat, (∀ k, JEntry.advance k ∉ s.js.queue ∧ ∀ w, s.js.write = some w → w.entry ≠ .advance k) →
        (∀ k, left k = (match (s.sa.blocks.get k).current with
          | some c => c.stop - c.next
          | none => 0) + match (s.sa.blocks.get k).next with
          | .ready start stop => stop - start
          | .absent | .pending => 0) →
        exec (.closeLot tag) s = .next { s with
          lc := { s.lc with lotState := .closing, closeUnused := left 0 + left 1 + left 2 + left 3 }
          sa := { s.sa with blocks := Four.all { current := none, next := .absent } }
          js := Journal.begun s.sa.mark { s.js with queue := s.js.queue ++ [.lotState 2] }
          sup := { s.sup with lane := some { kind := 0x22, tag := tag, task := .plain } } })

/-- LOAD WAFER is answered LOT NOT OPEN under a lot that is not OPEN, WAFER ACTIVE with a wafer LOADING or ACTIVE, and
BAD WAFER for a number outside 1 to 255 or a count outside 1 to 128, with nothing changed. Else it enters LOADING,
sets wafer and grid, empties the table, places word 10 at the journal queue's tail, begun at once where it may, and
begins the calibration of every enabled channel that is IDLE or UNCALIBRATED. It then awaits the word's write and
every enabled channel that is not HALTED; a HALTED one is noted NOT RUN, channel HALTED, and else one of a disabled
site NOT RUN, site disabled (R14, R15, R63, R133, R143, R145, R188). -/
def Obligations.LoadWaferBegins : Prop :=
  (∀ (tag : Byte) (number cols rows : Word) (s : State), s.SupReady →
    (s.lc.lotState ≠ .isOpen →
      exec (.loadWafer tag number cols rows) s = .next (s.reply .supervisor ⟨0x23, tag, [32]⟩)) ∧
    (s.lc.lotState = .isOpen → s.lc.wafer = .loading ∨ s.lc.wafer = .active →
      exec (.loadWafer tag number cols rows) s = .next (s.reply .supervisor ⟨0x23, tag, [41]⟩)) ∧
    (s.lc.lotState = .isOpen → s.lc.wafer = .none ∨ s.lc.wafer = .closed →
      number = 0 ∨ 256 ≤ number.toNat ∨ cols = 0 ∨ 129 ≤ cols.toNat ∨ rows = 0 ∨ 129 ≤ rows.toNat →
      exec (.loadWafer tag number cols rows) s = .next (s.reply .supervisor ⟨0x23, tag, [42]⟩))) ∧
  ∀ (tag : Byte) (number cols rows : Word) (s : State), s.SupReady → s.lc.lotState = .isOpen →
    s.lc.wafer = .none ∨ s.lc.wafer = .closed → number ≠ 0 → number.toNat ≤ 255 → cols ≠ 0 → cols.toNat ≤ 128 →
    rows ≠ 0 → rows.toNat ≤ 128 → s.port = [] →
    ∃ t, exec (.loadWafer tag number cols rows) s = .next t ∧ t.lc.wafer = .loading ∧
      t.lc.waferNumber = number.toNat ∧ t.lc.cols = cols.toNat ∧ t.lc.rows = rows.toNat ∧
      (∃ ctx, t.lc.load = some ctx ∧ ctx.reload = (number == s.lc.lastWafer) ∧ ctx.journalDone = false ∧
        ∀ k, ctx.cal.get k = if (s.chan k).state = .halted then .notRunHalted
          else if (s.site k).enabled = false then .notRunDisabled else .awaited) ∧
      { t.lc with
        wafer := s.lc.wafer
        waferNumber := s.lc.waferNumber
        cols := s.lc.cols
        rows := s.lc.rows
        load := s.lc.load } = s.lc ∧
      t.drt.records = [] ∧ (∀ p, t.drt.lookup p = none) ∧ t.drt.marks = Vector.replicate 128 false ∧
      (∀ st, t.drt.counts.get st = 0) ∧
      t.js = Journal.begun s.sa.mark { s.js with queue := s.js.queue ++ [.wafer number] } ∧
      (∀ k, (s.site k).enabled = true → (s.chan k).state = .idle ∨ (s.chan k).state = .uncalibrated →
        t.chan k = { s.chan k with state := .calibrating, calRun := some { codes := [], kind := 0x23 } }) ∧
      (∀ k, (s.site k).enabled = false ∨ (s.chan k).state = .halted ∨ (s.chan k).state = .calibrating →
        t.chan k = s.chan k) ∧
      t.sup = { s.sup with lane := some { kind := 0x23, tag := tag, task := .loadWafer } } ∧
      { t with lc := s.lc, drt := s.drt, js := s.js, chans := s.chans, sup := s.sup } = s

/-- CLOSE WAFER is answered LOT NOT OPEN under a lot neither OPEN nor SUSPENDED, NO WAFER on a wafer that is not
ACTIVE, and SITES ACTIVE with a burn in progress, a BURN that waits on a calibration, or a PREPARE unanswered, at any
site, with nothing changed. Else it sets the wafer CLOSED with every slot EMPTY, its derivation withdrawn, and every
record final: a RESERVED one VOID or, after pulses, INTERRUPTED with the mark; an INTERRUPTED or FAILED one marked; no
holder is left. A changed record's page is marked. It is answered with the records made VOID, the records given the
mark and the record count, in two words each (R16, R17, R95, R168); that the two numbers before the record count are
counts of R168 is the model's choice, log 43. -/
def Obligations.CloseWaferSweeps : Prop :=
  (∀ (tag : Byte) (s : State), s.SupReady →
    (s.lc.lotState ≠ .isOpen → s.lc.lotState ≠ .suspended →
      exec (.closeWafer tag) s = .next (s.reply .supervisor ⟨0x24, tag, [32]⟩)) ∧
    (s.lc.lotState = .isOpen ∨ s.lc.lotState = .suspended → s.lc.wafer ≠ .active →
      exec (.closeWafer tag) s = .next (s.reply .supervisor ⟨0x24, tag, [40]⟩)) ∧
    (s.lc.lotState = .isOpen ∨ s.lc.lotState = .suspended → s.lc.wafer = .active →
      (∃ k, (s.chan k).state ∈ [ChanState.waiting, .qualifying, .checking, .adoptWait, .programming, .verifying, .locking] ∨
        (s.site k).cmd ≠ none ∨ ∃ b, (s.site k).burn = some b ∧ b.waitsCal = true) →
      exec (.closeWafer tag) s = .next (s.reply .supervisor ⟨0x24, tag, [21]⟩))) ∧
  ∀ (tag : Byte) (out : DEntry → Bool) (s : State), s.SupReady →
    s.lc.lotState = .isOpen ∨ s.lc.lotState = .suspended → s.lc.wafer = .active →
    (∀ k, (s.chan k).state ∉ [ChanState.waiting, .qualifying, .checking, .adoptWait, .programming, .verifying, .locking] ∧
      (s.site k).cmd = none ∧ ∀ b, (s.site k).burn = some b → b.waitsCal = false) → s.port = [] →
    (∀ e, out e = true ↔ ∃ k l, DEntry.isSlot k l e = true ∧ ((s.chan k).slot l).state ≠ .empty) →
    ∃ t, exec (.closeWafer tag) s = .next t ∧ t.lc = { s.lc with wafer := .closed } ∧
      (∀ k l, (t.chan k).slot l = if ((s.chan k).slot l).state = .empty then (s.chan k).slot l
        else { state := .empty, taking := none, image := none,
               discardPending := ((s.chan k).slot l).discardPending || s.du.runs (DEntry.isSlot k l) }) ∧
      t.du = { queue := s.du.queue.filter (fun e => !out e)
               current := s.du.current.map fun d => if out d.entry then { d with discard := true } else d
               pointer := s.du.pointer } ∧
      t.drt.records.length = s.drt.records.length ∧ t.drt.posMap = s.drt.posMap ∧
      (∀ (i : Nat) (r : DieRecord), s.drt.records[i]? = some r → t.drt.records[i]? = some
        (if r.state = .reserved then
          if r.pulses = 0 then { r with holder := none, state := .void, stamp := s.lc.clock }
          else { r with holder := none, state := .interrupted, stamp := s.lc.clock, exhausted := true }
        else if r.state = .interrupted ∨ r.state = .failed then { r with holder := none, exhausted := true }
        else { r with holder := none })) ∧
      (∀ i : Nat, t.drt.records[i]? ≠ s.drt.records[i]? → t.drt.marks[i / 64]? = some true ∨ 128 ≤ i / 64) ∧
      (∀ k, { t.chan k with slotA := (s.chan k).slotA, slotB := (s.chan k).slotB } = s.chan k) ∧
      t.sup = { lane := none, io := { s.sup.io with replies := s.sup.io.replies ++ [⟨0x24, tag,
        [0] ++ twoWords (s.drt.records.countP fun r => r.state = .reserved ∧ r.pulses = 0) ++
          twoWords (s.drt.records.countP fun r => r.exhausted = false ∧
            (r.state = .reserved ∧ r.pulses ≠ 0 ∨ r.state = .interrupted ∨ r.state = .failed)) ++
          twoWords s.drt.records.length⟩] } } ∧
      { t with lc := s.lc, du := s.du, drt := s.drt, chans := s.chans, sup := s.sup } = s

/-! ### Profiles and calibration requests -/

/-- A SET PROFILE's fields are brought into range, each to the nearer bound and in R137's order, Wmax against the W0
stored and TP against the TR stored, and a profile already in range is stored as sent; the stored profile takes the
next generation number and the request is answered ACCEPTED or CLAMPED with the fields and the clamped bits, one for
each field that is stored otherwise than sent, from bit 0 for W0 to bit 7 for the qualify timeout (R137, R168). -/
def Obligations.SetProfileStores : Prop :=
  (∀ p : ProfileWords, (clampProfile p).InRange ∧
     ((Profile.mk p.w0.toNat p.wmax.toNat p.g.toNat p.pmax.toNat p.tr.toNat p.tp.toNat p.settle.toNat
         p.timeout.toNat).InRange →
       (clampProfile p).fields = sentFields p ∧ clampedBits (sentFields p) (clampProfile p).fields = 0)) ∧
  (∀ (p : ProfileWords) (q : Profile), q = clampProfile p →
     q.w0 = min 128 (max 2 p.w0.toNat) ∧ q.wmax = min 128 (max q.w0 p.wmax.toNat) ∧ q.g = min 16 (max 8 p.g.toNat) ∧
     q.pmax = min 8 (max 1 p.pmax.toNat) ∧ q.tr = min 960 (max 256 p.tr.toNat) ∧
     q.tp = min 1000 (max (q.tr + 32) p.tp.toNat) ∧ q.settle = min 255 (max 1 p.settle.toNat) ∧
     q.timeout = min 200 (max 1 p.timeout.toNat)) ∧
  (∀ (p : ProfileWords) (q : Profile) (b : Nat), q = clampProfile p → b = clampedBits (sentFields p) q.fields →
     b < 256 ∧ (b.testBit 0 = true ↔ q.w0 ≠ p.w0.toNat) ∧ (b.testBit 1 = true ↔ q.wmax ≠ p.wmax.toNat) ∧
     (b.testBit 2 = true ↔ q.g ≠ p.g.toNat) ∧ (b.testBit 3 = true ↔ q.pmax ≠ p.pmax.toNat) ∧
     (b.testBit 4 = true ↔ q.tr ≠ p.tr.toNat) ∧ (b.testBit 5 = true ↔ q.tp ≠ p.tp.toNat) ∧
     (b.testBit 6 = true ↔ q.settle ≠ p.settle.toNat) ∧ (b.testBit 7 = true ↔ q.timeout ≠ p.timeout.toNat)) ∧
  ∀ (tag : Byte) (p : ProfileWords) (q : Profile) (b : Nat) (s : State), s.SupReady → q = clampProfile p →
    b = clampedBits (sentFields p) q.fields →
    exec (.setProfile tag p) s = .next
      ((s.withPs { profile := q, gen := s.ps.gen + 1 }).reply .supervisor
        ⟨0x25, tag, [if b = 0 then 1 else 2, wordOf b, wordOf q.w0, wordOf q.wmax, wordOf q.g, wordOf q.pmax,
          wordOf q.tr, wordOf q.tp, wordOf q.settle, wordOf q.timeout, s.ps.gen + 1]⟩)

/-- SET PROFILE DEFAULT is answered PART STOPPED while the part is stopped; otherwise it stores the default profile
whatever stands there, raises the generation number by one and is answered ACCEPTED with both (R138). -/
def Obligations.SetProfileDefaultStores : Prop :=
  ∀ (tag : Byte) (s : State), s.powered = true → s.full .supervisor = false →
    (s.fu.partStopped = true →
      exec (.setProfileDefault tag) s = .next (s.reply .supervisor ⟨0x26, tag, [18]⟩)) ∧
    (s.fu.partStopped = false → s.sup.lane = none →
      exec (.setProfileDefault tag) s = .next
        ((s.withPs { profile := defaultProfile, gen := s.ps.gen + 1 }).reply .supervisor
          ⟨0x26, tag, [1, 0, 16, 100, 12, 6, 600, 700, 20, 50, s.ps.gen + 1]⟩))

/-- CALIBRATE of an enabled channel: IDLE or UNCALIBRATED begins a calibration; CALIBRATING waits for the one in progress;
in a burn it is deferred and answered DEFERRED; HALTED is answered CHANNEL HALTED. A disabled site is answered SITE DISABLED
and a number above 3 BAD RANGE (R133). -/
def Obligations.CalibrateActsByState : Prop :=
  (∀ (tag : Byte) (k : Site) (s : State), s.SupReady → (s.site k).enabled = false →
    exec (.calibrate tag (wordOf k.val)) s = .next (s.reply .supervisor ⟨0x27, tag, [19]⟩)) ∧
  ∀ (tag : Byte) (k : Site) (s : State), s.SupReady → (s.site k).enabled = true →
    ((s.chan k).state = .calibrating →
      exec (.calibrate tag (wordOf k.val)) s = .next { s with
        sup := { s.sup with lane := some { kind := 0x27, tag := tag, task := .calibrate k } } }) ∧
    ((s.chan k).state = .idle ∨ (s.chan k).state = .uncalibrated →
      exec (.calibrate tag (wordOf k.val)) s = .next { s with
        chans := s.chans.set k
          { s.chan k with state := .calibrating, calRun := some { codes := [], kind := 0x27 } }
        sup := { s.sup with lane := some { kind := 0x27, tag := tag, task := .calibrate k } } }) ∧
    ((s.chan k).state ∈ [ChanState.waiting, .qualifying, .checking, .adoptWait, .programming, .verifying, .locking] →
      exec (.calibrate tag (wordOf k.val)) s = .next
        ({ s with chans := s.chans.set k { s.chan k with calDeferred := true } }.reply .supervisor
          ⟨0x27, tag, [3]⟩)) ∧
    ((s.chan k).state = .halted →
      exec (.calibrate tag (wordOf k.val)) s = .next (s.reply .supervisor ⟨0x27, tag, [65]⟩)) ∧
    ∀ c : Word, 4 ≤ c.toNat → exec (.calibrate tag c) s = .next (s.reply .supervisor ⟨0x27, tag, [43]⟩)

/-! ### Supervisor requests on sites, watches and alerts -/

/-- ENABLE SITE sets ENABLED and answers the state before; DISABLE SITE with both lanes free and both slots EMPTY sets
DISABLED and answers 0 slots released, and with a lane busy answers SITE ACTIVE; a number above 3 is BAD RANGE. A slot
that is not EMPTY is released, on the state `u` in which the accesses that came before have been taken, and so are both:
the slot is EMPTY with its derivation withdrawn, its record has no holder and its page is marked (R44, R84, R95, R171,
R172). That the access is taken in this step is log 12, and that the number of slots takes one word is log 43. -/
def Obligations.SitesAreEnabledAndDisabled : Prop :=
  (∀ (tag : Byte) (k : Site) (s : State), s.SupReady →
     exec (.enableSite tag (wordOf k.val)) s = .next
       ({ s with sites := s.sites.set k { s.site k with enabled := true } }.reply .supervisor
         ⟨0x28, tag, [0, if (s.site k).enabled then 0 else 1]⟩) ∧
     ((s.site k).cmd = none → (s.site k).burn = none → (s.chan k).slotA = Slot.reset → (s.chan k).slotB = Slot.reset →
       exec (.disableSite tag (wordOf k.val)) s = .next
         ({ s with sites := s.sites.set k { s.site k with enabled := false } }.reply .supervisor ⟨0x29, tag, [0, 0]⟩)) ∧
     ((s.site k).cmd ≠ none ∨ (s.site k).burn ≠ none →
       exec (.disableSite tag (wordOf k.val)) s = .next (s.reply .supervisor ⟨0x29, tag, [20]⟩)) ∧
     ∀ n : Word, 4 ≤ n.toNat →
       exec (.enableSite tag n) s = .next (s.reply .supervisor ⟨0x28, tag, [43]⟩) ∧
       exec (.disableSite tag n) s = .next (s.reply .supervisor ⟨0x29, tag, [43]⟩)) ∧
  (∀ (tag : Byte) (k : Site) (l : SlotId) (x : Taking) (r : DieRecord) (s v u : State), s.SupReady →
    (s.site k).cmd = none → (s.site k).burn = none → ((s.chan k).slot l).state ≠ .empty →
    (∀ m, m ≠ l → ((s.chan k).slot m).state = .empty) →
    v = { s with sup := { s.sup with lane := some { kind := 0x29, tag := tag, task := .plain } } } →
    u = v.drainFor k false → ((u.chan k).slot l).taking = some x → (∀ m, m ≠ l → ((u.chan k).slot m).taking = none) →
    u.drt.records[x.idx]? = some r →
    ((∀ e ∈ s.port, e.moment = s.now ∧ ¬(e.site = k ∧ e.access.byChannel = false)) → u = v) ∧
    ∃ t, exec (.disableSite tag (wordOf k.val)) s = .next t ∧
      t.chan k = (u.chan k).setSlot l
        { state := .empty, taking := none, image := none,
          discardPending := ((u.chan k).slot l).discardPending || u.du.runs (DEntry.isSlot k l) } ∧
      t.du = { queue := u.du.queue.filter (fun e => !DEntry.isSlot k l e)
               current := u.du.current.map fun d =>
                 if DEntry.isSlot k l d.entry then { d with discard := true } else d
               pointer := u.du.pointer } ∧
      t.drt = { u.drt with
        records := u.drt.records.set x.idx { r with holder := none }
        marks := u.drt.marks.setIfInBounds (x.idx / 64) true } ∧
      t.site k = { u.site k with enabled := false } ∧
      (∀ j, j ≠ k → t.site j = u.site j ∧ t.chan j = u.chan j) ∧
      t.sup = { lane := none, io := { s.sup.io with replies := s.sup.io.replies ++ [⟨0x29, tag, [0, 1]⟩] } } ∧
      { t with chans := u.chans, drt := u.drt, du := u.du, sites := u.sites, sup := u.sup } = u) ∧
  ∀ (tag : Byte) (k : Site) (x y : Taking) (r q : DieRecord) (s v u : State), s.SupReady →
    (s.site k).cmd = none → (s.site k).burn = none → (∀ l, ((s.chan k).slot l).state ≠ .empty) →
    v = { s with sup := { s.sup with lane := some { kind := 0x29, tag := tag, task := .plain } } } →
    u = v.drainFor k false → (u.chan k).slotA.taking = some x → (u.chan k).slotB.taking = some y →
    u.drt.records[x.idx]? = some r → u.drt.records[y.idx]? = some q →
    ∃ t, exec (.disableSite tag (wordOf k.val)) s = .next t ∧
      t.chan k = { u.chan k with
        slotA := { state := .empty, taking := none, image := none,
                   discardPending := (u.chan k).slotA.discardPending || u.du.runs (DEntry.isSlot k .a) }
        slotB := { state := .empty, taking := none, image := none,
                   discardPending := (u.chan k).slotB.discardPending || u.du.runs (DEntry.isSlot k .b) } } ∧
      t.du = { queue := u.du.queue.filter (fun e => !(DEntry.isSlot k .a e || DEntry.isSlot k .b e))
               current := u.du.current.map fun d =>
                 if DEntry.isSlot k .a d.entry || DEntry.isSlot k .b d.entry then { d with discard := true } else d
               pointer := u.du.pointer } ∧
      t.drt = { u.drt with
        records := (u.drt.records.set x.idx { r with holder := none }).set y.idx { q with holder := none }
        marks := (u.drt.marks.setIfInBounds (x.idx / 64) true).setIfInBounds (y.idx / 64) true } ∧
      t.site k = { u.site k with enabled := false } ∧
      (∀ j, j ≠ k → t.site j = u.site j ∧ t.chan j = u.chan j) ∧
      t.sup = { lane := none, io := { s.sup.io with replies := s.sup.io.replies ++ [⟨0x29, tag, [0, 2]⟩] } } ∧
      { t with chans := u.chans, drt := u.drt, du := u.du, sites := u.sites, sup := u.sup } = u

/-- RESET SITE drops the site's deferred calibration, abandons one in progress and ends what the lanes hold as an
ABORT does: a PREPARE waiting for its block or held, and a BURN waiting on a calibration, are answered ABORTED; a
PREPARE in an access is let through it, and marked in its lookup, and if a draw of it then waits it is answered
ABORTED with its claim left to the sweep; a burn in WAITING or QUALIFYING ends ABORTED without a write, one that can
end at once does, and one whose pulse or measurement is in progress runs out under the fixed ending, where an ABORT
that waits for it goes on waiting. It then waits for its sweep, which clears the holders of the site's RESERVED
records and marks their pages, empties both slots and removes their derivations, makes the channel UNCALIBRATED with
offset, degraded flag, latched flag and attempt counters kept, and answers DONE with the requests answered and the
channel state before (R52, R65, R95, R126, R134, R160, R173). That calibrations end at the acceptance is log 15, that
the count is fixed there and includes waiting ABORTs is log 14, and that it takes one word is log 43. -/
def Obligations.ResetSiteClearsTheSite : Prop :=
  (∀ (tag : Byte) (k : Site) (n : Nat) (c : Channel) (su : SupLink) (s : State), s.SupReady →
    n = (s.site k).cmd.toList.length + (s.site k).burn.toList.length + (s.site k).aborts.length →
    c = { s.chan k with
      calDeferred := false
      calRun := none
      state := if (s.chan k).state = .calibrating then .uncalibrated else (s.chan k).state } →
    su = { s.sup with lane := some { kind := 0x2A, tag := tag, task := .resetSite k n (s.chan k).state } } →
    (∀ w : Word, 4 ≤ w.toNat → exec (.resetSite tag w) s = .next (s.reply .supervisor ⟨0x2A, tag, [43]⟩)) ∧
    ((s.site k).cmd = none → (s.site k).burn = none →
      exec (.resetSite tag (wordOf k.val)) s = .next { s with chans := s.chans.set k c, sup := su }) ∧
    (∀ q, (s.site k).cmd = some q → (s.site k).burn = none →
      ((∃ i m, q.phase = .binding i m) ∨ (∃ i, q.phase = .slotTaking i) →
        exec (.resetSite tag (wordOf k.val)) s = .next { s with chans := s.chans.set k c, sup := su }) ∧
      (q.phase = .lookup →
        exec (.resetSite tag (wordOf k.val)) s = .next { s with
          chans := s.chans.set k c, sup := su
          sites := s.sites.set k { s.site k with cmd := some { q with aborted := true } } }) ∧
      (q.phase = .heldPosition ∨ (∃ i, q.phase = .waitBlock i ∨ ∃ m, q.phase = .heldSerial i m) →
        (s.site k).aborts = [] →
        exec (.resetSite tag (wordOf k.val)) s = .next { s with
          chans := s.chans.set k c, sup := su
          sites := s.sites.set k { s.site k with cmd := none, io := { (s.site k).io with
            replies := (s.site k).io.replies ++ [⟨0x01, q.tag, [89]⟩] } } })) ∧
    (∀ q b, (s.site k).cmd = some q → (s.site k).burn = some b → b.waitsCal = false → (s.chan k).runsOut = true →
      ((∃ i m, q.phase = .binding i m) ∨ (∃ i, q.phase = .slotTaking i) →
        exec (.resetSite tag (wordOf k.val)) s = .next { s with
          chans := s.chans.set k { c with ending := some ((s.chan k).ending.getD .aborted) }, sup := su }) ∧
      (q.phase = .lookup →
        exec (.resetSite tag (wordOf k.val)) s = .next { s with
          chans := s.chans.set k { c with ending := some ((s.chan k).ending.getD .aborted) }, sup := su
          sites := s.sites.set k { s.site k with cmd := some { q with aborted := true } } }) ∧
      (q.phase = .heldPosition ∨ (∃ i, q.phase = .waitBlock i ∨ ∃ m, q.phase = .heldSerial i m) →
        (∀ a ∈ (s.site k).aborts, a.waitsBurn = true) →
        exec (.resetSite tag (wordOf k.val)) s = .next { s with
          chans := s.chans.set k { c with ending := some ((s.chan k).ending.getD .aborted) }, sup := su
          sites := s.sites.set k { s.site k with
            cmd := none
            aborts := (s.site k).aborts.map fun a => { a with waitsCmd := false }
            io := { (s.site k).io with replies := (s.site k).io.replies ++ [⟨0x01, q.tag, [89]⟩] } } })) ∧
    ∀ b, (s.site k).burn = some b → (s.site k).cmd = none →
      (b.waitsCal = true → (s.site k).aborts = [] →
        exec (.resetSite tag (wordOf k.val)) s = .next { s with
          chans := s.chans.set k c, sup := su
          sites := s.sites.set k { s.site k with burn := none, io := { (s.site k).io with
            replies := (s.site k).io.replies ++ [⟨0x03, b.tag, [89]⟩] } } }) ∧
      ∀ (l : SlotId) (x : Taking), b.waitsCal = false → (s.chan k).burning = some l →
        ((s.chan k).slot l).taking = some x →
        (∀ r, (s.chan k).state = .waiting ∨ (s.chan k).state = .qualifying → s.drt.records[x.idx]? = some r →
          (s.site k).aborts = [] →
          ∃ t, exec (.resetSite tag (wordOf k.val)) s = .next t ∧ Channel.LeftBy l .aborted c (t.chan k) ∧
            t.site k = { s.site k with burn := none, io := { (s.site k).io with
              replies := (s.site k).io.replies ++
                [⟨0x03, b.tag, [89, posWord x.pos, wordOf x.idx, hiWord x.serial, loWord x.serial, 0,
                  wordOf (classCode (s.chan k).cls), wordOf (s.chan k).attPulses, wordOf (s.chan k).attBits,
                  wordOf r.attempts, 0]⟩] } } ∧
            (∀ j, j ≠ k → t.site j = s.site j ∧ t.chan j = s.chan j) ∧ t.sup = su ∧
            { t with chans := s.chans, sites := s.sites, sup := s.sup } = s) ∧
        ((s.chan k).endsAtOnce = true →
          ∃ t, exec (.resetSite tag (wordOf k.val)) s = .next t ∧ Channel.EndedBy l x .aborted false c (t.chan k) ∧
            State.EndsAt k .ending s t ∧ (∀ j, j ≠ k → t.chan j = s.chan j) ∧ t.sup = su ∧
            { t with chans := s.chans, sup := s.sup, port := s.port, du := s.du } = s) ∧
        ((s.chan k).runsOut = true →
          exec (.resetSite tag (wordOf k.val)) s = .next { s with
            chans := s.chans.set k { c with ending := some ((s.chan k).ending.getD .aborted) }, sup := su })) ∧
  (∀ (k : Site) (q : PrepReq) (o : SupReqState) (n : Nat) (before : ChanState) (rest : List PortEntry) (m : Nat)
     (s v : State), s.powered = true → s.fu.partStopped = false → (s.site k).cmd = some q → q.phase = .lookup →
     q.aborted = true → (s.site k).aborts = [] → s.sup.lane = some o → o.task = .resetSite k n before →
     s.port = { access := .lookup, site := k, moment := m } :: rest → s.drt.lookup q.pos = none →
     s.drt.records.length < 8192 → (s.chan k).freeSlot ≠ none → s.draw k = (v, .waits) →
     exec (.prepareLookup k) s = .next { v with
       drt := s.drt.create q.pos k s.lc.clock
       port := rest
       sites := s.sites.set k { s.site k with cmd := none, io := { (s.site k).io with
         replies := (s.site k).io.replies ++ [⟨0x01, q.tag, [89]⟩] } } }) ∧
  ∀ (tag : Byte) (k : Site) (n : Nat) (before : ChanState) (out : DEntry → Bool) (s : State), s.powered = true →
    (s.site k).cmd = none → (s.site k).burn = none → s.port = [] →
    s.sup.lane = some { kind := 0x2A, tag := tag, task := .resetSite k n before } →
    (∀ e, out e = true ↔ e.isAdopt k = true ∨
      ∃ l, DEntry.isSlot k l e = true ∧ ((s.chan k).slot l).state ≠ .empty) →
    ∃ t, exec (.resetSiteSweep k) s = .next t ∧
      (∀ (i : Nat) (r : DieRecord), s.drt.records[i]? = some r → t.drt.records[i]? = some
        (if r.state = .reserved ∧ r.holder.map Holder.site = some k then { r with holder := none } else r)) ∧
      t.drt.records.length = s.drt.records.length ∧ t.drt.posMap = s.drt.posMap ∧ t.drt.counts = s.drt.counts ∧
      (∀ p, p < 128 →
        ((∃ i r, s.drt.records[i]? = some r ∧ i / 64 = p ∧ r.state = .reserved ∧
          r.holder.map Holder.site = some k) → t.drt.marks[p]? = some true) ∧
        (¬(∃ i r, s.drt.records[i]? = some r ∧ i / 64 = p ∧ r.state = .reserved ∧
          r.holder.map Holder.site = some k) → t.drt.marks[p]? = s.drt.marks[p]?)) ∧
      (t.chan k).state = .uncalibrated ∧ (t.chan k).calResult = none ∧ (t.chan k).calReadings = none ∧
      (t.chan k).calRun = none ∧ (t.chan k).calDeferred = false ∧ (t.chan k).burning = none ∧
      (t.chan k).snapshot = none ∧ (t.chan k).readImage = none ∧ (t.chan k).lockRead = none ∧
      (t.chan k).cls = none ∧ (t.chan k).curFuse = none ∧ (t.chan k).qualCounter = 0 ∧ (t.chan k).bounce = 0 ∧
      (t.chan k).qualTimer = 0 ∧ (t.chan k).offset = (s.chan k).offset ∧
      (t.chan k).degraded = (s.chan k).degraded ∧ (t.chan k).contact = (s.chan k).contact ∧
      (t.chan k).contactLost = (s.chan k).contactLost ∧ (t.chan k).attPulses = (s.chan k).attPulses ∧
      (t.chan k).attBits = (s.chan k).attBits ∧
      (∀ l, (t.chan k).slot l = if ((s.chan k).slot l).state = .empty then (s.chan k).slot l
        else { state := .empty, taking := none, image := none,
               discardPending := ((s.chan k).slot l).discardPending || s.du.runs (DEntry.isSlot k l) }) ∧
      t.du = { queue := s.du.queue.filter (fun e => !out e)
               current := s.du.current.map fun d => if out d.entry then { d with discard := true } else d
               pointer := s.du.pointer } ∧
      (∀ j, j ≠ k → t.chan j = s.chan j) ∧
      t.sup = { lane := none, io := { s.sup.io with
        replies := s.sup.io.replies ++ [⟨0x2A, tag, [0, wordOf n, wordOf before.code]⟩] } } ∧
      { t with chans := s.chans, drt := s.drt, du := s.du, sup := s.sup } = s

/-- SET WATCH stores kind, value and action with a hit count of 0 and answers the previous kind and count; CLEAR WATCH
leaves NONE, NOTE, 0 and answers what stood there; bad entries, kinds, actions and positions are BAD RANGE (R174,
R175); a hit count takes two words (R168). -/
def Obligations.WatchesAreSetAndCleared : Prop :=
  ∀ (tag : Byte) (e : Site) (s : State), s.SupReady →
    (∀ (a : Word) (n : BitVec 32), a = 0 ∨ a = 1 →
      exec (.setWatch tag (wordOf e.val) 2 a n) s = .next
        ({ s with wt := s.wt.set e { content := .serial n, hold := a == 1, hits := 0 } }.reply .supervisor
          ⟨0x2B, tag, [0, wordOf (s.wt.get e).content.kindCode] ++ twoWords (s.wt.get e).hits⟩)) ∧
    (∀ (a : Word) (p : Pos), a = 0 ∨ a = 1 → p.col.toNat ≤ 127 → p.row.toNat ≤ 127 →
      exec (.setWatch tag (wordOf e.val) 1 a (joinWords 0 (posWord p))) s = .next
        ({ s with wt := s.wt.set e { content := .position p, hold := a == 1, hits := 0 } }.reply .supervisor
          ⟨0x2B, tag, [0, wordOf (s.wt.get e).content.kindCode] ++ twoWords (s.wt.get e).hits⟩)) ∧
    (∀ (n kind a : Word) (v : BitVec 32),
      4 ≤ n.toNat ∨ (kind ≠ 1 ∧ kind ≠ 2) ∨ 2 ≤ a.toNat ∨
        (kind = 1 ∧ (hiWord v ≠ 0 ∨ 127 < (hiByte (loWord v)).toNat ∨ 127 < (loByte (loWord v)).toNat)) →
      exec (.setWatch tag n kind a v) s = .next (s.reply .supervisor ⟨0x2B, tag, [43]⟩)) ∧
    exec (.clearWatch tag (wordOf e.val)) s = .next
      ({ s with wt := s.wt.set e { content := .none, hold := false, hits := 0 } }.reply .supervisor
        ⟨0x2C, tag, [0, wordOf (s.wt.get e).content.kindCode] ++ (s.wt.get e).content.valueWords ++
          [if (s.wt.get e).hold then 1 else 0] ++ twoWords (s.wt.get e).hits⟩) ∧
    ∀ n : Word, 4 ≤ n.toNat → exec (.clearWatch tag n) s = .next (s.reply .supervisor ⟨0x2C, tag, [43]⟩)

/-- RELEASE HOLD of a number above 3 is BAD RANGE, and with nothing held answers 0 and changes nothing. What is held resumes
on the state `u` in which the accesses that came before have been taken, which is the state it meets when none waits: a
PREPARE held by a position watch goes on as one whose lookup access is taken, one held by a serial watch takes its slot
access; the answer is 1, the kind and the position (R44, R89, R93, R176); that the access is taken in this step is log 12. -/
def Obligations.HoldsAreReleased : Prop :=
  ∀ (tag : Byte) (k : Site) (s v u : State), s.SupReady →
    v = { s with sup := { s.sup with lane := some { kind := 0x2D, tag := tag, task := .plain } } } →
    u = v.drainFor k false →
    (∀ n : Word, 4 ≤ n.toNat → exec (.releaseHold tag n) s = .next (s.reply .supervisor ⟨0x2D, tag, [43]⟩)) ∧
    ((∀ q, (s.site k).cmd = some q → q.phase ≠ .heldPosition ∧ ∀ i n, q.phase ≠ .heldSerial i n) →
      exec (.releaseHold tag (wordOf k.val)) s = .next (s.reply .supervisor ⟨0x2D, tag, [0, 0, 0, 0xFFFF]⟩)) ∧
    ((∀ e ∈ s.port, e.moment = s.now ∧ ¬(e.site = k ∧ e.access.byChannel = false)) → u = v) ∧
    ∀ q : PrepReq, (s.site k).cmd = some q → (u.site k).cmd = some q →
      (q.phase = .heldPosition → (∀ i, u.drt.lookup q.pos = some i → i < u.drt.records.length) →
        ∃ t, exec (.prepareLookup k) { u with
            sites := u.sites.set k { u.site k with cmd := some { q with phase := .lookup } }
            port := { access := .lookup, site := k, moment := u.now } :: u.port } = .next t ∧
          exec (.releaseHold tag (wordOf k.val)) s = .next { t with
            sup := { lane := none, io := { s.sup.io with
              replies := s.sup.io.replies ++ [⟨0x2D, tag, [0, 1, 1, posWord q.pos]⟩] } } }) ∧
      ∀ (i : Nat) (n : Serial) (l : SlotId) (r : DieRecord), q.phase = .heldSerial i n → (u.site k).aborts = [] →
        u.drt.records[i]? = some r → r.serial = some n →
        l = (if (u.chan k).slotA.state = .empty then SlotId.a else .b) → ((u.chan k).slot l).state = .empty →
        ∃ t, exec (.releaseHold tag (wordOf k.val)) s = .next t ∧
          t.site k = { u.site k with cmd := none, io := { (u.site k).io with
            replies := (u.site k).io.replies ++
              [⟨0x01, q.tag, [0, wordOf i, hiWord n, loWord n, wordOf l.code, wordOf r.attempts]⟩] } } ∧
          t.chan k = (u.chan k).setSlot l
            { state := .deriving, taking := some { idx := i, pos := r.pos, serial := n }, image := none,
              discardPending := ((u.chan k).slot l).discardPending } ∧
          t.du = u.placedEntry (.slot k l n r.pos u.lc.header.lotTag) ∧
          t.drt = { u.drt with
            records := u.drt.records.set i { r with holder := some { site := k, slot := some l } }
            marks := u.drt.marks.setIfInBounds (i / 64) true } ∧
          t.sup = { lane := none, io := { s.sup.io with
            replies := s.sup.io.replies ++ [⟨0x2D, tag, [0, 1, 2, posWord q.pos]⟩] } } ∧
          (∀ j, j ≠ k → t.site j = u.site j ∧ t.chan j = u.chan j) ∧
          { t with chans := u.chans, du := u.du, drt := u.drt, sites := u.sites, sup := u.sup } = u

/-- READ RECORDS is BAD RANGE by its arguments; with its first index at or past the record count and no site-side access
waiting it answers no records; else it takes the lane for its copies. Each copy adds one record as it stands, and the last
forms the reply; a copy at or past the record count forms it with what has been copied; a waiting site-side access keeps
the copy back. READ CHANGED with no mark answers no page; otherwise its first copy takes the lowest marked page, clears its
mark and copies the page's first record, each later copy adds the next, and the last of the page forms the reply with
whether a mark is still set. Both are taken in part STOP. A record is packed in the eight words of R166 (R44, R60, R61,
R164, R166, R169). Which copy forms the reply and when READ CHANGED finds no mark are the model's choice, log 26, and that
the number of records takes one word is log 43. -/
def Obligations.RecordsAreCopied : Prop :=
  ((∀ (tag : Byte) (first count : Word) (s : State), s.powered = true → s.full .supervisor = false →
     s.sup.lane = none →
     (8191 < first.toNat ∨ count = 0 ∨ 64 < count.toNat →
       exec (.readRecords tag first count) s = .next (s.reply .supervisor ⟨0x2E, tag, [43]⟩)) ∧
     (first.toNat ≤ 8191 → count ≠ 0 → count.toNat ≤ 64 →
       (s.port = [] → s.drt.records.length ≤ first.toNat →
         exec (.readRecords tag first count) s = .next (s.reply .supervisor ⟨0x2E, tag, [0, first, 0]⟩)) ∧
       (s.port ≠ [] ∨ first.toNat < s.drt.records.length →
         exec (.readRecords tag first count) s = .next { s with
           sup := { s.sup with
             lane := some { kind := 0x2E, tag := tag, task := .readRecords first.toNat count.toNat [] } } }))) ∧
   (∀ (tag : Byte) (first left : Nat) (ws : List Word) (s : State), s.powered = true → s.port = [] →
     s.sup.lane = some { kind := 0x2E, tag := tag, task := .readRecords first left ws } →
     s.drt.records.length ≤ first + ws.length / 8 →
     exec .recordCopy s = .next { s with
       sup := { lane := none, io := { s.sup.io with replies := s.sup.io.replies ++
         [⟨0x2E, tag, [0, wordOf first, wordOf (ws.length / 8)] ++ ws⟩] } } }) ∧
   ∀ (tag : Byte) (first left : Nat) (ws : List Word) (r : DieRecord) (s : State), s.powered = true →
     s.sup.lane = some { kind := 0x2E, tag := tag, task := .readRecords first left ws } →
     s.drt.records[first + ws.length / 8]? = some r →
     (s.port = [] → 1 < left → first + ws.length / 8 + 1 < s.drt.records.length →
       exec .recordCopy s = .next { s with
         sup := { s.sup with
           lane := some { kind := 0x2E, tag := tag, task := .readRecords first (left - 1) (ws ++ r.packed) } } }) ∧
     (s.port = [] → left = 1 ∨ s.drt.records.length = first + ws.length / 8 + 1 →
       exec .recordCopy s = .next { s with
         sup := { lane := none, io := { s.sup.io with replies := s.sup.io.replies ++
           [⟨0x2E, tag, [0, wordOf first, wordOf ((ws ++ r.packed).length / 8)] ++ (ws ++ r.packed)⟩] } } }) ∧
     (s.port ≠ [] → exec .recordCopy s = .next s)) ∧
  (∀ (tag : Byte) (s : State), s.powered = true → s.full .supervisor = false → s.sup.lane = none →
    ((∀ p : Nat, p < 128 → s.drt.marks[p]? = some false) →
      exec (.readChanged tag) s = .next (s.reply .supervisor ⟨0x2F, tag, [0, 0xFFFF, 0, 0]⟩)) ∧
    ((∃ p : Nat, s.drt.marks[p]? = some true) →
      exec (.readChanged tag) s = .next { s with
        sup := { s.sup with lane := some { kind := 0x2F, tag := tag, task := .readChanged none [] } } })) ∧
  (∀ (r : DieRecord) (w : Word), r.attempts ≤ 3 → r.bits ≤ 353 → r.pulses ≤ 65535 → r.pos.col.toNat ≤ 127 →
    r.pos.row.toNat ≤ 127 → r.packed.length = 8 ∧
      (r.packed[0]? = some w → w = hiWord (r.serial.getD 0)) ∧ (r.packed[1]? = some w → w = loWord (r.serial.getD 0)) ∧
      (r.packed[2]? = some w → w.getLsbD 15 = r.serial.isSome ∧ (w.extractLsb' 8 7).toNat = r.pos.col.toNat ∧
        w.getLsbD 7 = r.recovered ∧ (w.extractLsb' 0 7).toNat = r.pos.row.toNat) ∧
      (r.packed[3]? = some w →
        (r.state, (w.extractLsb' 12 4).toNat) ∈ [(RecState.reserved, 0), (.burning, 1), (.interrupted, 2), (.failed, 3),
          (.verified, 4), (.locked, 5), (.retired, 6), (.foreign, 7), (.void, 8)] ∧
        (w.extractLsb' 10 2).toNat = r.attempts ∧ w.getLsbD 9 = r.exhausted ∧ w.getLsbD 8 = r.lastSite.isSome ∧
        (w.extractLsb' 6 2).toNat = (r.lastSite.getD 0).val ∧ w.getLsbD 5 = r.holder.isSome ∧
        (w.extractLsb' 3 2).toNat = (match r.holder with
          | some h => h.site.val
          | none => 0) ∧
        (w.extractLsb' 1 2).toNat = (match r.holder with
          | some { site := _, slot := some .b } => 1
          | some { site := _, slot := none } => 2
          | _ => 0) ∧
        w.getLsbD 0 = decide (256 ≤ r.bits)) ∧
      (r.packed[4]? = some w → w.toNat = r.pulses) ∧
      (r.packed[5]? = some w → (hiByte w).toNat = r.bits % 256 ∧ (loByte w).toNat = (match r.lastOutcome with
        | some (.ended e) => e.word.toNat
        | some .reset => 92
        | none => 255)) ∧
      (r.packed[6]? = some w → w = hiWord r.stamp) ∧ (r.packed[7]? = some w → w = loWord r.stamp)) ∧
  ∀ (tag : Byte) (p : Nat) (r : DieRecord) (s : State), s.powered = true → s.port = [] →
    (∀ ws, s.sup.lane = some { kind := 0x2F, tag := tag, task := .readChanged none ws } → s.drt.marks[p]? = some true →
      (∀ q, q < p → s.drt.marks[q]? = some false) → s.drt.records[64 * p]? = some r →
      (64 * p + 1 < s.drt.records.length →
        exec .recordCopy s = .next { s with
          drt := { s.drt with marks := s.drt.marks.setIfInBounds p false }
          sup := { s.sup with lane := some { kind := 0x2F, tag := tag, task := .readChanged (some p) r.packed } } }) ∧
      (s.drt.records.length = 64 * p + 1 →
        exec .recordCopy s = .next { s with
          drt := { s.drt with marks := s.drt.marks.setIfInBounds p false }
          sup := { lane := none, io := { s.sup.io with replies := s.sup.io.replies ++
            [⟨0x2F, tag, [0, wordOf p, 1, if ∃ q : Fin 128, q.val ≠ p ∧ s.drt.marks[q.val]? = some true then 1 else 0] ++
              r.packed⟩] } } })) ∧
    ∀ ws : List Word, s.sup.lane = some { kind := 0x2F, tag := tag, task := .readChanged (some p) ws } →
      s.drt.records[64 * p + ws.length / 8]? = some r →
      (ws.length / 8 ≠ 63 → 64 * p + ws.length / 8 + 1 < s.drt.records.length →
        exec .recordCopy s = .next { s with
          sup := { s.sup with
            lane := some { kind := 0x2F, tag := tag, task := .readChanged (some p) (ws ++ r.packed) } } }) ∧
      (ws.length / 8 = 63 ∨ s.drt.records.length = 64 * p + ws.length / 8 + 1 →
        exec .recordCopy s = .next { s with
          sup := { lane := none, io := { s.sup.io with replies := s.sup.io.replies ++
            [⟨0x2F, tag, [0, wordOf p, wordOf ((ws ++ r.packed).length / 8),
              if ∃ q : Fin 128, s.drt.marks[q.val]? = some true then 1 else 0] ++ (ws ++ r.packed)⟩] } } })

/-- READ SUMMARY answers the counters, the wafer state, the wafer number and the grid in one step, as they stand when
every site-side access that waits has been taken before it, in part STOP as in RUN; with none waiting it changes
nothing else (R44, R62, R169). That each counter takes two words, the numbers R168 does not call counts too, is the
model's choice, log 43; that the waiting accesses are taken within this step, those that arrived together in the order
of their placing, is log 12. -/
def Obligations.SummaryIsAnswered : Prop :=
  ∀ (tag : Byte) (s : State), s.powered = true → s.full .supervisor = false → s.sup.lane = none →
    (s.port = [] → ∃ ws, exec (.readSummary tag) s = .next (s.reply .supervisor ⟨0x30, tag, ws⟩)) ∧
    ∃ t, exec (.readSummary tag) s = .next t ∧ t.port = [] ∧ t.sup.lane = none ∧
      t.sup.io = { s.sup.io with replies := s.sup.io.replies ++ [⟨0x30, tag,
        [0] ++ twoWords t.drt.records.length ++ twoWords t.drt.counts.reserved ++ twoWords t.drt.counts.burning ++
          twoWords t.drt.counts.interrupted ++ twoWords t.drt.counts.failed ++ twoWords t.drt.counts.verified ++
          twoWords t.drt.counts.locked ++ twoWords t.drt.counts.retired ++ twoWords t.drt.counts.foreign ++
          twoWords t.drt.counts.void ++ twoWords t.drt.counts.exhausted ++ twoWords t.drt.counts.recovered ++
          twoWords t.drt.counts.skipped ++
          [wordOf s.lc.wafer.code, wordOf s.lc.waferNumber, wordOf s.lc.cols, wordOf s.lc.rows]⟩] } ∧
      t.lc = s.lc ∧ t.ps = s.ps ∧ t.pending = s.pending

/-- READ FAULTS answers latch, count, part state, reset cause and both records, each with its code, site, position word,
request kind and stamp, an absent record with code 0 and an absent site or position as 255 or 0xFFFF, and changes nothing
else; CLEAR FAULTS clears latch, records and count, answers the count before, and keeps part state and alert flags; both
are taken in part STOP (R168, R169, R184, R185). What else an absent record shows is log 23 and stands in no clause here. -/
def Obligations.FaultsAreReadAndCleared : Prop :=
  ∀ (tag : Byte) (s : State), s.powered = true → s.full .supervisor = false → s.sup.lane = none →
    exec (.readFaults tag) s = .next (s.reply .supervisor ⟨0x32, tag, 0 :: s.fu.words⟩) ∧
    exec (.clearFaults tag) s = .next
      ({ s with fu := { s.fu with latch := false, first := none, last := none, count := 0 } }.reply .supervisor
        ⟨0x33, tag, [0] ++ twoWords s.fu.count⟩) ∧
    s.fu.words.length = 16 ∧
    s.fu.words.take 4 = [if s.fu.latch then 1 else 0, wordOf s.fu.count, if s.fu.partStopped then 1 else 0,
      if s.fu.resetLineCause then 1 else 0] ∧
    ∀ (rec : Option FaultRecord) (n : Nat), (rec, n) ∈ [(s.fu.first, 4), (s.fu.last, 10)] →
      (rec = none → s.fu.words[n]? = some 0) ∧
      ∀ f, rec = some f → (s.fu.words.drop n).take 6 =
        [wordOf f.code,
          match f.site with
          | some k => wordOf k.val
          | none => 255,
          match f.pos with
          | some p => posWord p
          | none => 0xFFFF,
          f.kind.setWidth 16, hiWord f.stamp, loWord f.stamp]

/-- ACK ALERT clears the named flags and no other, in part STOP as in RUN; SET ALERT MASK stores bits 0 to 3, answers the
stored mask and the flags as they stand, and is answered PART STOPPED in part STOP; the ALERT level is asserted exactly
while some flag is both set and enabled (R178, R179). -/
def Obligations.AlertsFollowFlagsAndMask : Prop :=
  (∀ (tag : Byte) (w : Word) (f : AlertFlags) (s : State), s.powered = true → s.full .supervisor = false →
    s.sup.lane = none →
    f = { fault := s.fu.flags.fault && !w.getLsbD 0, watch := s.fu.flags.watch && !w.getLsbD 1,
          exhausted := s.fu.flags.exhausted && !w.getLsbD 2, power := s.fu.flags.power && !w.getLsbD 3 } →
    exec (.ackAlert tag w) s = .next
      ({ s with fu := { s.fu with flags := f } }.reply .supervisor
        ⟨0x34, tag, [0, f.toWord, s.fu.mask.toWord]⟩)) ∧
  (∀ (tag : Byte) (w : Word) (s : State), s.SupReady →
    exec (.setAlertMask tag w) s = .next
      ({ s with fu := { s.fu with mask := { fault := w.getLsbD 0, watch := w.getLsbD 1, exhausted := w.getLsbD 2,
                                            power := w.getLsbD 3 } } }.reply .supervisor
        ⟨0x35, tag, [0, w &&& 0x000F, s.fu.flags.toWord]⟩)) ∧
  (∀ (tag : Byte) (w : Word) (s : State), s.powered = true → s.full .supervisor = false → s.fu.partStopped = true →
    exec (.setAlertMask tag w) s = .next (s.reply .supervisor ⟨0x35, tag, [18]⟩)) ∧
  ∀ u : FaultUnit, u.alertLevel = true ↔
    (u.flags.fault = true ∧ u.mask.fault = true) ∨ (u.flags.watch = true ∧ u.mask.watch = true) ∨
    (u.flags.exhausted = true ∧ u.mask.exhausted = true) ∨ (u.flags.power = true ∧ u.mask.power = true)

/-! ### Journal, power and resets -/

/-- A try whose read-back differs is followed by the second try, or by the final erase; one that matches completes the
write, which is handed on, and the next queued write begins where one may: OPEN opens the lot and answers OPEN LOT, CLOSED
closes it and answers CLOSE LOT with the close report, the wafer number is noted and LOAD WAFER answered when nothing more
is awaited, a ride-through count is mirrored, and a block advance raises the mark and places the block [first + 16b, …) as
the site's current or READY block, where a draw that waits is resumed. A RESET line that waited takes effect right after the
completion has been handed on, of which the reset then leaves the word and, of OPEN, the serials drawn at 0 (R5, R10, R14,
R15, R23, R25, R34, R143, R145, R146, R151). That the word then holds what was read back is the model's choice, log 28, and
so are the offsets in LOAD WAFER's reply, log 25; that a waiting RESET line leaves LOAD WAFER unanswered and an advance's
block unplaced is DEDUCED, logs 21 and 22. -/
def Obligations.JournalTriesEnd : Prop :=
  ∀ (w : JWrite) (v : Word) (j : Journal) (s : State), s.powered = true → s.js.write = some w → w.phase ≠ .finalErase →
    j = { s.js with words := s.js.words.setIfInBounds w.entry.word v, write := none } →
    (v ≠ w.value →
      exec (.journalTryEnd v) s = .next { s with js := { j with
        write := some (if w.second then { w with phase := .finalErase, elapsed := 0 }
          else { w with second := true, phase := .erase, elapsed := 0 }) } }) ∧
    (v = w.value → s.resetWaiting = true →
      exec (.journalTryEnd v) s = exec .resetLine { s with
        js := j, sa := { s.sa with drawn := if w.entry = .lotState 1 then 0 else s.sa.drawn } }) ∧
    (v = w.value → s.resetWaiting = false →
      (∀ n x, w.entry = .header n x →
        exec (.journalTryEnd v) s = .next { s with js := Journal.begun s.sa.mark j }) ∧
      (∀ n, w.entry = .rideThrough n →
        exec (.journalTryEnd v) s =
          .next { s with js := Journal.begun s.sa.mark { j with rideMirror := v.toNat } }) ∧
      (∀ q, s.sup.lane = some q → w.entry = .lotState 1 →
        exec (.journalTryEnd v) s = .next { s with
          lc := { s.lc with lotState := .isOpen }
          sa := { mark := 0, outstanding := 0, exhausted := false, drawn := 0,
                  blocks := Four.all { current := none, next := .absent } }
          js := Journal.begun 0 j
          sup := { lane := none, io := { s.sup.io with replies := s.sup.io.replies ++
            [⟨q.kind, q.tag, [0, s.lc.header.lotTag, s.lc.header.fp1, s.lc.header.fp2]⟩] } } }) ∧
      (∀ q, s.sup.lane = some q → w.entry = .lotState 2 →
        exec (.journalTryEnd v) s = .next { s with
          lc := { s.lc with secret := none, lotState := .closed }
          sa := { s.sa with exhausted := false }
          js := Journal.begun s.sa.mark j
          sup := { lane := none, io := { s.sup.io with replies := s.sup.io.replies ++
            [⟨q.kind, q.tag, [0, s.lc.header.lotTag] ++ twoWords (min (16 * s.sa.mark) s.lc.header.count.toNat) ++
              twoWords s.sa.drawn ++ twoWords s.lc.closeUnused ++ [wordOf s.sa.mark]⟩] } } }) ∧
      (∀ (n : Word) (ctx : LoadCtx), w.entry = .wafer n → s.lc.load = some ctx →
        ((∃ k, ctx.cal.get k = .awaited) →
          exec (.journalTryEnd v) s = .next { s with
            lc := { s.lc with lastWafer := n, load := some { ctx with journalDone := true } }
            js := Journal.begun s.sa.mark j }) ∧
        ∀ q, (∀ k, ctx.cal.get k ≠ .awaited) → s.sup.lane = some q →
          exec (.journalTryEnd v) s = .next { s with
            lc := { s.lc with lastWafer := n, wafer := .active, load := none }
            js := Journal.begun s.sa.mark j
            sup := { lane := none, io := { s.sup.io with replies := s.sup.io.replies ++
              [⟨q.kind, q.tag, [0, wordOf s.lc.waferNumber, if ctx.reload then 1 else 0,
                wordOf (ctx.cal.get 0).code, signedWord (s.chan 0).offset,
                wordOf (ctx.cal.get 1).code, signedWord (s.chan 1).offset,
                wordOf (ctx.cal.get 2).code, signedWord (s.chan 2).offset,
                wordOf (ctx.cal.get 3).code, signedWord (s.chan 3).offset]⟩] } } }) ∧
      ∀ (k : Site) (b : Nat) (blk : Block) (u : State), w.entry = .advance k → w.value = wordOf (b + 1) → b < 65535 →
        blk = { next := s.lc.header.first.toNat + 16 * b
                stop := min (s.lc.header.first.toNat + 16 * (b + 1))
                  (s.lc.header.first.toNat + s.lc.header.count.toNat) } →
        u = { s with
          js := j
          sa := { s.sa with
            mark := b + 1
            outstanding := s.sa.outstanding - 1
            blocks := s.sa.blocks.set k (if ∃ c ∈ (s.sa.blocks.get k).current, c.next < c.stop
              then { s.sa.blocks.get k with next := .ready blk.next blk.stop }
              else { current := some blk, next := .absent }) } } →
        ((∀ q i, (s.site k).cmd = some q → q.phase ≠ .waitBlock i) →
          exec (.journalTryEnd v) s = .next { u with js := Journal.begun (b + 1) j }) ∧
        ∀ (q : PrepReq) (i : Nat) (x : State) (n : Serial), (s.site k).cmd = some q → q.phase = .waitBlock i →
          s.fu.partStopped = false → u.draw k = (x, .drawn n) →
          exec (.journalTryEnd v) s = .next { x with
            js := Journal.begun x.sa.mark x.js
            sites := s.sites.set k { s.site k with cmd := some { q with phase := .binding i n } }
            port := s.port ++ [{ access := .binding, site := k, moment := s.now }] })

/-- A failed write leaves its word at 65535 and the others as they were, reports fault 71, and takes part STOP: the
journal is stopped with an empty queue, no site has a PENDING block or an outstanding advance, and the mark mirror is
kept; a lot request in progress goes back to its lot state before, with the secret erased, and a LOAD WAFER to no
wafer, each answered PART STOPPED. At every site a PREPARE that waits for its block is answered PART STOPPED with its
claim cleared by an access and any other PREPARE stays; a BURN that waits on a calibration is answered PART STOPPED, a
burn before its blank check ends and is answered, one past it ends at once with its ending write placed, or under the
fixed ending when its pulse or measurement has run out; a deferred calibration is dropped (R6, R8, R11, R15, R32, R52,
R103, R124, R147, R148, R186). With a RESET line waiting, the reset takes effect right after, on the part with that
word, write and fault as they are then (R151, R186). That a site's PREPARE is answered before its BURN is the model's
choice, log 42; that one in an access stays is log 38, and that the reset comes before the ending writes is log 46. -/
def Obligations.FailedWriteStopsThePart : Prop :=
  (∀ (w : JWrite) (s : State), s.powered = true → s.js.write = some w → w.phase = .finalErase → s.resetWaiting = true →
    exec .journalWriteFail s = exec .resetLine { s with
      js := { s.js with words := s.js.words.setIfInBounds w.entry.word 65535, write := none }
      fu := s.fu.take ⟨71, w.entry.site, none, w.entry.requestKind, s.lc.clock⟩ }) ∧
  ∀ (w : JWrite) (s : State), s.powered = true → s.js.write = some w → w.phase = .finalErase → w.entry.word < 32 →
    s.resetWaiting = false → (∀ k, (s.site k).aborts = []) →
    ∃ t, exec .journalWriteFail s = .next t ∧ t.js.word w.entry.word = 65535 ∧
      (∀ n, n ≠ w.entry.word → t.js.word n = s.js.word n) ∧ t.js.write = none ∧ t.js.queue = [] ∧
      t.js.stopped = true ∧ t.js.held = s.js.held ∧ t.js.rideMirror = s.js.rideMirror ∧
      t.fu = { s.fu.take ⟨71, w.entry.site, none, w.entry.requestKind, s.lc.clock⟩ with partStopped := true } ∧
      t.sa.mark = s.sa.mark ∧ t.sa.outstanding = 0 ∧ t.sa.drawn = s.sa.drawn ∧ t.sa.exhausted = s.sa.exhausted ∧
      (∀ k, (t.sa.blocks.get k).current = (s.sa.blocks.get k).current ∧
        (t.sa.blocks.get k).next = (if (s.sa.blocks.get k).next = .pending then .absent
          else (s.sa.blocks.get k).next)) ∧
      t.drt = s.drt ∧ t.wt = s.wt ∧ t.ps = s.ps ∧
      (s.lc.lotState = .opening → t.lc = { s.lc with secret := none, lotState := s.lc.before }) ∧
      (s.lc.lotState = .resuming ∨ s.lc.lotState = .closing →
        t.lc = { s.lc with secret := none, lotState := .suspended }) ∧
      (s.lc.lotState ∈ [LotState.empty, .isOpen, .suspended, .closed] → s.lc.wafer = .loading →
        t.lc = { s.lc with wafer := .none, load := none }) ∧
      (∀ q, s.sup.lane = some q → s.lc.lotState ∈ [LotState.opening, .resuming, .closing] ∨ s.lc.wafer = .loading →
        t.sup = { lane := none, io := { s.sup.io with replies := s.sup.io.replies ++ [⟨q.kind, q.tag, [18]⟩] } }) ∧
      (s.lc.lotState ∉ [LotState.opening, .resuming, .closing] → s.lc.wafer ≠ .loading → t.lc = s.lc ∧ t.sup = s.sup) ∧
      ((∀ k, (s.site k).burn = none) → t.du = { s.du with
        queue := s.du.queue.filter fun e => !e.isFingerprint
        current := s.du.current.map fun d => if d.entry.isFingerprint then { d with discard := true } else d }) ∧
      ∀ k, ∃ cr br : List Message,
        (t.site k).io = { (s.site k).io with replies := (s.site k).io.replies ++ cr ++ br } ∧
        (t.site k).enabled = (s.site k).enabled ∧ (t.site k).aborts = [] ∧
        ((∀ q i, (s.site k).cmd = some q → q.phase ≠ .waitBlock i) → (t.site k).cmd = (s.site k).cmd ∧ cr = []) ∧
        (∀ q i, (s.site k).cmd = some q → q.phase = .waitBlock i →
          (t.site k).cmd = none ∧ cr = [⟨0x01, q.tag, [18]⟩] ∧
          { access := .clearing i, site := k, moment := s.now } ∈ t.port) ∧
        ((s.site k).burn = none →
          t.chan k = { s.chan k with calDeferred := false } ∧ (t.site k).burn = none ∧ br = []) ∧
        ∀ b, (s.site k).burn = some b →
          (b.waitsCal = true →
            t.chan k = { s.chan k with calDeferred := false } ∧ (t.site k).burn = none ∧
            br = [⟨0x03, b.tag, [18]⟩]) ∧
          ∀ (l : SlotId) (x : Taking), b.waitsCal = false → (s.chan k).burning = some l →
            ((s.chan k).slot l).taking = some x →
            (∀ r, (s.chan k).state = .waiting ∨ (s.chan k).state = .qualifying → s.drt.records[x.idx]? = some r →
              Channel.LeftBy l .partStopped { s.chan k with calDeferred := false } (t.chan k) ∧
              (t.site k).burn = none ∧
              br = [⟨0x03, b.tag, [18, posWord x.pos, wordOf x.idx, hiWord x.serial, loWord x.serial, 0,
                wordOf (classCode (s.chan k).cls), wordOf (s.chan k).attPulses, wordOf (s.chan k).attBits,
                wordOf r.attempts, 0]⟩]) ∧
            ((s.chan k).endsAtOnce = true →
              Channel.EndedBy l x .partStopped false { s.chan k with calDeferred := false } (t.chan k) ∧
              (t.site k).burn = some b ∧ br = [] ∧
              { access := .ending, site := k, moment := s.now } ∈ t.port) ∧
            ((s.chan k).runsOut = true →
              t.chan k = { s.chan k with
                calDeferred := false, ending := some ((s.chan k).ending.getD .partStopped) } ∧
              (t.site k).burn = some b ∧ br = [])

/-- An assertion of PWRWARN holds the journal, notes the warning and sets POWER; a burn past its blank-check start whose
pulse or measurement is in progress runs out with the ending POWER WARNING fixed, one that can end at once does, with fault
61 and its ending write placed, and every other channel stays. A deassertion ends the hold, counts a ride-through if the
warning was seen by a journal that is not stopped, on the increment that waits or as a new one at the tail, sets POWER and
begins the next write where one may; a qualification that stands at settle begins its blank check as one that completes then
(R106, R122, R143, R145, R149, R150, R177). -/
def Obligations.PowerWarningHoldsTheJournal : Prop :=
  (∀ s : State, s.powered = true → s.pwrwarn = false →
     ∃ t, exec .pwrwarnAssert s = .next t ∧ t.pwrwarn = true ∧
       t.js = { s.js with held := true, warningSeen := true } ∧
       (∀ k, (s.chan k).runsOut = true →
         t.chan k = { s.chan k with ending := some ((s.chan k).ending.getD .powerWarning) }) ∧
       (∀ k, (s.chan k).runsOut = false → (s.chan k).endsAtOnce = false → t.chan k = s.chan k) ∧
       (∀ (k : Site) (l : SlotId) (x : Taking), (s.chan k).endsAtOnce = true → (s.chan k).burning = some l →
         ((s.chan k).slot l).taking = some x →
         Channel.EndedBy l x .powerWarning false (s.chan k) (t.chan k) ∧
         { access := .ending, site := k, moment := s.now } ∈ t.port ∧ t.fu.latch = true ∧
         ((∀ j, j ≠ k → (s.chan j).endsAtOnce = false) → State.EndsAt k .ending s t ∧
           t.fu = FaultUnit.take ⟨61, some k, some x.pos, 0x03, s.lc.clock⟩
             { s.fu with flags := { s.fu.flags with power := true } })) ∧
       ((∀ k, (s.chan k).endsAtOnce = false) → t.port = s.port ∧ t.du = s.du ∧
         t.fu = { s.fu with flags := { s.fu.flags with power := true } }) ∧
       { t with pwrwarn := s.pwrwarn, js := s.js, chans := s.chans, port := s.port, du := s.du, fu := s.fu } = s) ∧
  ∀ (Q : List JEntry) (s u : State), s.powered = true → s.pwrwarn = true →
    (s.js.warningSeen = false ∨ s.js.stopped = true) ∧ Q = s.js.queue ∨
      s.js.warningSeen = true ∧ s.js.stopped = false ∧ (∀ e ∈ s.js.queue, ∀ n, e ≠ .rideThrough n) ∧
        Q = s.js.queue ++ [.rideThrough 1] ∨
      s.js.warningSeen = true ∧ s.js.stopped = false ∧ (∃ a n b, s.js.queue = a ++ .rideThrough n :: b ∧
        (∀ e ∈ a, ∀ m, e ≠ .rideThrough m) ∧ Q = a ++ .rideThrough (min 65535 (n + 1)) :: b) →
    u = { s with
      pwrwarn := false
      js := Journal.begun s.sa.mark { s.js with held := false, warningSeen := false, queue := Q }
      fu := { s.fu with flags := { s.fu.flags with power := true } } } →
    ((∀ k sn, (s.chan k).state = .qualifying → (s.chan k).snapshot = some sn →
        (s.chan k).qualCounter < sn.profile.settle) → exec .pwrwarnDeassert s = .next u) ∧
    ∀ (k : Site) (sn : Snapshot), (s.chan k).state = .qualifying → (s.chan k).snapshot = some sn →
      (s.chan k).qualCounter = sn.profile.settle → (s.chan k).contact = true →
      (∀ j sn', j ≠ k → (s.chan j).state = .qualifying → (s.chan j).snapshot = some sn' →
        (s.chan j).qualCounter < sn'.profile.settle) →
      exec .pwrwarnDeassert s = exec (.qualificationComplete k) u

/-- The RESET line waits for a write in progress and changes nothing till then; with none it takes effect at once: the
lot from the journal with its secret erased, blocks absent, the exhausted flag from the journal, serials drawn kept; BURNING
records INTERRUPTED with outcome RESET, no holders on RESERVED ones, the pages of changed records marked and the counts
moved with them; slots EMPTY; channels as after power-on but for offset, degraded flag, last result and readings and
contact, IDLE after a calibration that succeeded; profile and fault records kept; links as after power-on but for the enable
states (R3, R19, R28, R33, R64, R99, R127, R135, R151, R152, R163, R181, R189). -/
def Obligations.ResetLineTakesEffect : Prop :=
  ∀ s : State, s.powered = true →
    (s.js.write ≠ none → exec .resetLine s = .next { s with resetWaiting := true }) ∧
    (s.js.write = none → ∃ t, exec .resetLine s = .next t ∧
      t.lc.lotState = (if s.js.word 0 = 0 then .empty else if s.js.word 0 = 2 then .closed else .suspended) ∧
      t.lc.secret = none ∧ t.lc.clock = 0 ∧ t.lc.lastWafer = s.js.word 10 ∧ t.lc.load = none ∧
      t.lc.header = { lotTag := s.js.word 1, first := joinWords (s.js.word 2) (s.js.word 3),
                      count := joinWords (s.js.word 4) (s.js.word 5), options := s.js.word 6, fp1 := s.js.word 7,
                      fp2 := s.js.word 8 } ∧
      t.lc.wafer = (if s.lc.wafer = .loading then .none else s.lc.wafer) ∧
      t.lc.waferNumber = s.lc.waferNumber ∧ t.lc.cols = s.lc.cols ∧ t.lc.rows = s.lc.rows ∧
      t.sa.mark = (s.js.word 9).toNat ∧ t.sa.outstanding = 0 ∧ t.sa.drawn = s.sa.drawn ∧
      (t.sa.exhausted = true ↔ s.js.word 0 ≠ 0 ∧ s.js.word 0 ≠ 2 ∧
        (joinWords (s.js.word 4) (s.js.word 5)).toNat ≤ 16 * (s.js.word 9).toNat) ∧
      (∀ k, t.sa.blocks.get k = { current := none, next := .absent }) ∧
      t.drt.records.length = s.drt.records.length ∧ t.drt.posMap = s.drt.posMap ∧
      (∀ (i : Nat) (r : DieRecord), s.drt.records[i]? = some r → t.drt.records[i]? = some
        (if r.state = .burning then { r with
            state := .interrupted, lastOutcome := some .reset, holder := none, stamp := 0,
            exhausted := r.exhausted || r.attempts == 3 }
          else if r.state = .reserved then { r with holder := none } else r)) ∧
      (∀ p, p < 128 →
        ((∃ i r, s.drt.records[i]? = some r ∧ i / 64 = p ∧
          (r.state = .burning ∨ r.state = .reserved ∧ r.holder ≠ none)) → t.drt.marks[p]? = some true) ∧
        (¬(∃ i r, s.drt.records[i]? = some r ∧ i / 64 = p ∧
          (r.state = .burning ∨ r.state = .reserved ∧ r.holder ≠ none)) → t.drt.marks[p]? = s.drt.marks[p]?)) ∧
      t.drt.counts = { s.drt.counts with
        burning := s.drt.counts.burning - s.drt.records.countP (fun r => r.state = .burning)
        interrupted := s.drt.counts.interrupted + s.drt.records.countP (fun r => r.state = .burning)
        exhausted := s.drt.counts.exhausted +
          s.drt.records.countP (fun r => r.state = .burning ∧ r.attempts = 3 ∧ r.exhausted = false) } ∧
      t.port = [] ∧ t.du = { queue := [], current := none, pointer := 0 } ∧
      (∀ k, t.chan k = { State.reset.chan k with
        state := if (s.chan k).calResult = some .calibrated ∨ (s.chan k).calResult = some .limited
          then .idle else .uncalibrated
        offset := (s.chan k).offset
        degraded := (s.chan k).degraded
        calResult := (s.chan k).calResult
        calReadings := (s.chan k).calReadings
        contact := (s.chan k).contact }) ∧
      t.ps = s.ps ∧ t.js.words = s.js.words ∧ t.js.queue = [] ∧ t.js.write = none ∧ t.js.held = s.pwrwarn ∧
      t.js.warningSeen = false ∧ t.js.stopped = false ∧ t.js.rideMirror = (s.js.word 11).toNat ∧
      (∀ e, t.wt.get e = { content := .none, hold := false, hits := 0 }) ∧
      t.fu = { s.fu with
        partStopped := false
        flags := { fault := false, watch := false, exhausted := false, power := false }
        mask := { fault := true, watch := true, exhausted := true, power := true }
        resetLineCause := true } ∧ t.fu.alertLevel = false ∧
      (∀ k, t.site k = { State.reset.site k with enabled := (s.site k).enabled }) ∧ t.sup = State.reset.sup ∧
      t.resetWaiting = false ∧ t.powered = true ∧ t.pwrwarn = s.pwrwarn ∧ t.pending = s.pending)

/-- Power-on reset keeps the journal's words and sets every block to its initial values, the lot, the mark, the exhausted
flag and the ride-through mirror from the journal, with contacts and PWRWARN as they stand; a loss of supply with no write
in progress keeps every word, and one that cuts a write leaves only that word unknown (R3, R28, R33, R141, R151, R152), a
free value, log 7, in whatever phase the write stands, log 29; that the supply is a flag is log 9. -/
def Obligations.PowerOnReadsTheJournal : Prop :=
  ∀ s : State,
    (s.js.write = none → ∃ t, exec .powerOnReset s = .next t ∧ t.powered = true ∧ t.js.words = s.js.words ∧
      t.lc.lotState = (if s.js.word 0 = 0 then .empty else if s.js.word 0 = 2 then .closed else .suspended) ∧
      t.lc.header = { lotTag := s.js.word 1, first := joinWords (s.js.word 2) (s.js.word 3),
                      count := joinWords (s.js.word 4) (s.js.word 5), options := s.js.word 6, fp1 := s.js.word 7,
                      fp2 := s.js.word 8 } ∧
      t.lc.lastWafer = s.js.word 10 ∧ t.lc.secret = none ∧ t.lc.wafer = .none ∧ t.lc.clock = 0 ∧
      t.lc.waferNumber = 0 ∧ t.lc.cols = 0 ∧ t.lc.rows = 0 ∧ t.lc.load = none ∧
      t.sa.mark = (s.js.word 9).toNat ∧ t.sa.drawn = 0 ∧ t.sa.outstanding = 0 ∧
      (∀ k, t.sa.blocks.get k = { current := none, next := .absent }) ∧
      (t.sa.exhausted = true ↔ s.js.word 0 ≠ 0 ∧ s.js.word 0 ≠ 2 ∧
        (joinWords (s.js.word 4) (s.js.word 5)).toNat ≤ 16 * (s.js.word 9).toNat) ∧
      t.js.rideMirror = (s.js.word 11).toNat ∧ t.js.held = s.pwrwarn ∧ t.js.queue = [] ∧ t.js.write = none ∧
      t.js.stopped = false ∧ t.js.warningSeen = false ∧ t.resetWaiting = false ∧ t.pwrwarn = s.pwrwarn ∧
      t.drt = State.reset.drt ∧ t.port = [] ∧
      t.du = State.reset.du ∧ t.ps = State.reset.ps ∧ t.wt = State.reset.wt ∧ t.fu = State.reset.fu ∧
      t.sites = State.reset.sites ∧ t.sup = State.reset.sup ∧
      (∀ k, t.chan k = { State.reset.chan k with contact := (s.chan k).contact }) ∧ t.pending = s.pending) ∧
    (s.js.write = none → ∃ t, exec .supplyLoss s = .next t ∧ t.powered = false ∧ t.js.words = s.js.words ∧
      t.pending = s.pending) ∧
    ∀ w, s.js.write = some w → ∃ t, exec .supplyLoss s = .next t ∧ t.powered = false ∧
      (∀ n, n ≠ w.entry.word → t.js.word n = s.js.word n) ∧
      (w.entry.word < 32 → t.js.word w.entry.word = Config.freeWord s.freeCount) ∧ t.pending = s.pending
end

