-- ==== Sys2Proof/Laws/State.lean ====
section
/-!
SUPPORT. One lemma per field per update of State, true by rfl, so that no later proof unfolds a
record update; the lemmas of `Four` and of a channel's slots.
-/

namespace Sys2Proof

@[simp] theorem Four.get_set_same {α : Type} (f : Four α) (k : Site) (x : α) : (f.set k x).get k = x := by
  fin_cases k <;> rfl

@[simp] theorem Four.get_set_ne {α : Type} (f : Four α) {j k : Site} (x : α) (h : j ≠ k) :
    (f.set k x).get j = f.get j := by
  fin_cases j <;> fin_cases k <;> first | rfl | exact absurd rfl h

theorem Four.get_set {α : Type} (f : Four α) (j k : Site) (x : α) :
    (f.set k x).get j = if j = k then x else f.get j := by
  split
  · next h => subst h; simp
  · next h => simp [h]

@[simp] theorem Four.get_all {α : Type} (x : α) (k : Site) : (Four.all x).get k = x := by
  fin_cases k <;> rfl

@[simp] theorem Four.get_map {α β : Type} (g : α → β) (f : Four α) (k : Site) :
    (f.map g).get k = g (f.get k) := by
  fin_cases k <;> rfl

@[simp] theorem Four.set_get {α : Type} (f : Four α) (k : Site) : f.set k (f.get k) = f := by
  fin_cases k <;> rfl

@[simp] theorem Four.set_set {α : Type} (f : Four α) (k : Site) (x y : α) : (f.set k x).set k y = f.set k y := by
  fin_cases k <;> rfl

/-- Two of four things are equal when they agree at every number. -/
theorem Four.ext_get {α : Type} {f g : Four α} (h : ∀ k, f.get k = g.get k) : f = g := by
  have h0 := h 0
  have h1 := h 1
  have h2 := h 2
  have h3 := h 3
  cases f; cases g; simp_all [Four.get]

namespace Machine

@[simp] theorem State.withLc_lc (s : State) (x : LotController) : (s.withLc x).lc = x := rfl
@[simp] theorem State.withLc_sa (s : State) (x : LotController) : (s.withLc x).sa = s.sa := rfl
@[simp] theorem State.withLc_drt (s : State) (x : LotController) : (s.withLc x).drt = s.drt := rfl
@[simp] theorem State.withLc_port (s : State) (x : LotController) : (s.withLc x).port = s.port := rfl
@[simp] theorem State.withLc_du (s : State) (x : LotController) : (s.withLc x).du = s.du := rfl
@[simp] theorem State.withLc_chans (s : State) (x : LotController) : (s.withLc x).chans = s.chans := rfl
@[simp] theorem State.withLc_ps (s : State) (x : LotController) : (s.withLc x).ps = s.ps := rfl
@[simp] theorem State.withLc_js (s : State) (x : LotController) : (s.withLc x).js = s.js := rfl
@[simp] theorem State.withLc_wt (s : State) (x : LotController) : (s.withLc x).wt = s.wt := rfl
@[simp] theorem State.withLc_fu (s : State) (x : LotController) : (s.withLc x).fu = s.fu := rfl
@[simp] theorem State.withLc_sites (s : State) (x : LotController) : (s.withLc x).sites = s.sites := rfl
@[simp] theorem State.withLc_sup (s : State) (x : LotController) : (s.withLc x).sup = s.sup := rfl
@[simp] theorem State.withLc_pwrwarn (s : State) (x : LotController) : (s.withLc x).pwrwarn = s.pwrwarn := rfl
@[simp] theorem State.withLc_powered (s : State) (x : LotController) : (s.withLc x).powered = s.powered := rfl
@[simp] theorem State.withLc_resetWaiting (s : State) (x : LotController) : (s.withLc x).resetWaiting = s.resetWaiting := rfl
@[simp] theorem State.withLc_now (s : State) (x : LotController) : (s.withLc x).now = s.now := rfl
@[simp] theorem State.withLc_freeCount (s : State) (x : LotController) : (s.withLc x).freeCount = s.freeCount := rfl
@[simp] theorem State.withLc_pending (s : State) (x : LotController) : (s.withLc x).pending = s.pending := rfl

@[simp] theorem State.withSa_lc (s : State) (x : Allocator) : (s.withSa x).lc = s.lc := rfl
@[simp] theorem State.withSa_sa (s : State) (x : Allocator) : (s.withSa x).sa = x := rfl
@[simp] theorem State.withSa_drt (s : State) (x : Allocator) : (s.withSa x).drt = s.drt := rfl
@[simp] theorem State.withSa_port (s : State) (x : Allocator) : (s.withSa x).port = s.port := rfl
@[simp] theorem State.withSa_du (s : State) (x : Allocator) : (s.withSa x).du = s.du := rfl
@[simp] theorem State.withSa_chans (s : State) (x : Allocator) : (s.withSa x).chans = s.chans := rfl
@[simp] theorem State.withSa_ps (s : State) (x : Allocator) : (s.withSa x).ps = s.ps := rfl
@[simp] theorem State.withSa_js (s : State) (x : Allocator) : (s.withSa x).js = s.js := rfl
@[simp] theorem State.withSa_wt (s : State) (x : Allocator) : (s.withSa x).wt = s.wt := rfl
@[simp] theorem State.withSa_fu (s : State) (x : Allocator) : (s.withSa x).fu = s.fu := rfl
@[simp] theorem State.withSa_sites (s : State) (x : Allocator) : (s.withSa x).sites = s.sites := rfl
@[simp] theorem State.withSa_sup (s : State) (x : Allocator) : (s.withSa x).sup = s.sup := rfl
@[simp] theorem State.withSa_pwrwarn (s : State) (x : Allocator) : (s.withSa x).pwrwarn = s.pwrwarn := rfl
@[simp] theorem State.withSa_powered (s : State) (x : Allocator) : (s.withSa x).powered = s.powered := rfl
@[simp] theorem State.withSa_resetWaiting (s : State) (x : Allocator) : (s.withSa x).resetWaiting = s.resetWaiting := rfl
@[simp] theorem State.withSa_now (s : State) (x : Allocator) : (s.withSa x).now = s.now := rfl
@[simp] theorem State.withSa_freeCount (s : State) (x : Allocator) : (s.withSa x).freeCount = s.freeCount := rfl
@[simp] theorem State.withSa_pending (s : State) (x : Allocator) : (s.withSa x).pending = s.pending := rfl

@[simp] theorem State.withDrt_lc (s : State) (x : Table) : (s.withDrt x).lc = s.lc := rfl
@[simp] theorem State.withDrt_sa (s : State) (x : Table) : (s.withDrt x).sa = s.sa := rfl
@[simp] theorem State.withDrt_drt (s : State) (x : Table) : (s.withDrt x).drt = x := rfl
@[simp] theorem State.withDrt_port (s : State) (x : Table) : (s.withDrt x).port = s.port := rfl
@[simp] theorem State.withDrt_du (s : State) (x : Table) : (s.withDrt x).du = s.du := rfl
@[simp] theorem State.withDrt_chans (s : State) (x : Table) : (s.withDrt x).chans = s.chans := rfl
@[simp] theorem State.withDrt_ps (s : State) (x : Table) : (s.withDrt x).ps = s.ps := rfl
@[simp] theorem State.withDrt_js (s : State) (x : Table) : (s.withDrt x).js = s.js := rfl
@[simp] theorem State.withDrt_wt (s : State) (x : Table) : (s.withDrt x).wt = s.wt := rfl
@[simp] theorem State.withDrt_fu (s : State) (x : Table) : (s.withDrt x).fu = s.fu := rfl
@[simp] theorem State.withDrt_sites (s : State) (x : Table) : (s.withDrt x).sites = s.sites := rfl
@[simp] theorem State.withDrt_sup (s : State) (x : Table) : (s.withDrt x).sup = s.sup := rfl
@[simp] theorem State.withDrt_pwrwarn (s : State) (x : Table) : (s.withDrt x).pwrwarn = s.pwrwarn := rfl
@[simp] theorem State.withDrt_powered (s : State) (x : Table) : (s.withDrt x).powered = s.powered := rfl
@[simp] theorem State.withDrt_resetWaiting (s : State) (x : Table) : (s.withDrt x).resetWaiting = s.resetWaiting := rfl
@[simp] theorem State.withDrt_now (s : State) (x : Table) : (s.withDrt x).now = s.now := rfl
@[simp] theorem State.withDrt_freeCount (s : State) (x : Table) : (s.withDrt x).freeCount = s.freeCount := rfl
@[simp] theorem State.withDrt_pending (s : State) (x : Table) : (s.withDrt x).pending = s.pending := rfl

@[simp] theorem State.withPort_lc (s : State) (x : List PortEntry) : (s.withPort x).lc = s.lc := rfl
@[simp] theorem State.withPort_sa (s : State) (x : List PortEntry) : (s.withPort x).sa = s.sa := rfl
@[simp] theorem State.withPort_drt (s : State) (x : List PortEntry) : (s.withPort x).drt = s.drt := rfl
@[simp] theorem State.withPort_port (s : State) (x : List PortEntry) : (s.withPort x).port = x := rfl
@[simp] theorem State.withPort_du (s : State) (x : List PortEntry) : (s.withPort x).du = s.du := rfl
@[simp] theorem State.withPort_chans (s : State) (x : List PortEntry) : (s.withPort x).chans = s.chans := rfl
@[simp] theorem State.withPort_ps (s : State) (x : List PortEntry) : (s.withPort x).ps = s.ps := rfl
@[simp] theorem State.withPort_js (s : State) (x : List PortEntry) : (s.withPort x).js = s.js := rfl
@[simp] theorem State.withPort_wt (s : State) (x : List PortEntry) : (s.withPort x).wt = s.wt := rfl
@[simp] theorem State.withPort_fu (s : State) (x : List PortEntry) : (s.withPort x).fu = s.fu := rfl
@[simp] theorem State.withPort_sites (s : State) (x : List PortEntry) : (s.withPort x).sites = s.sites := rfl
@[simp] theorem State.withPort_sup (s : State) (x : List PortEntry) : (s.withPort x).sup = s.sup := rfl
@[simp] theorem State.withPort_pwrwarn (s : State) (x : List PortEntry) : (s.withPort x).pwrwarn = s.pwrwarn := rfl
@[simp] theorem State.withPort_powered (s : State) (x : List PortEntry) : (s.withPort x).powered = s.powered := rfl
@[simp] theorem State.withPort_resetWaiting (s : State) (x : List PortEntry) : (s.withPort x).resetWaiting = s.resetWaiting := rfl
@[simp] theorem State.withPort_now (s : State) (x : List PortEntry) : (s.withPort x).now = s.now := rfl
@[simp] theorem State.withPort_freeCount (s : State) (x : List PortEntry) : (s.withPort x).freeCount = s.freeCount := rfl
@[simp] theorem State.withPort_pending (s : State) (x : List PortEntry) : (s.withPort x).pending = s.pending := rfl

@[simp] theorem State.withDu_lc (s : State) (x : DerivUnit) : (s.withDu x).lc = s.lc := rfl
@[simp] theorem State.withDu_sa (s : State) (x : DerivUnit) : (s.withDu x).sa = s.sa := rfl
@[simp] theorem State.withDu_drt (s : State) (x : DerivUnit) : (s.withDu x).drt = s.drt := rfl
@[simp] theorem State.withDu_port (s : State) (x : DerivUnit) : (s.withDu x).port = s.port := rfl
@[simp] theorem State.withDu_du (s : State) (x : DerivUnit) : (s.withDu x).du = x := rfl
@[simp] theorem State.withDu_chans (s : State) (x : DerivUnit) : (s.withDu x).chans = s.chans := rfl
@[simp] theorem State.withDu_ps (s : State) (x : DerivUnit) : (s.withDu x).ps = s.ps := rfl
@[simp] theorem State.withDu_js (s : State) (x : DerivUnit) : (s.withDu x).js = s.js := rfl
@[simp] theorem State.withDu_wt (s : State) (x : DerivUnit) : (s.withDu x).wt = s.wt := rfl
@[simp] theorem State.withDu_fu (s : State) (x : DerivUnit) : (s.withDu x).fu = s.fu := rfl
@[simp] theorem State.withDu_sites (s : State) (x : DerivUnit) : (s.withDu x).sites = s.sites := rfl
@[simp] theorem State.withDu_sup (s : State) (x : DerivUnit) : (s.withDu x).sup = s.sup := rfl
@[simp] theorem State.withDu_pwrwarn (s : State) (x : DerivUnit) : (s.withDu x).pwrwarn = s.pwrwarn := rfl
@[simp] theorem State.withDu_powered (s : State) (x : DerivUnit) : (s.withDu x).powered = s.powered := rfl
@[simp] theorem State.withDu_resetWaiting (s : State) (x : DerivUnit) : (s.withDu x).resetWaiting = s.resetWaiting := rfl
@[simp] theorem State.withDu_now (s : State) (x : DerivUnit) : (s.withDu x).now = s.now := rfl
@[simp] theorem State.withDu_freeCount (s : State) (x : DerivUnit) : (s.withDu x).freeCount = s.freeCount := rfl
@[simp] theorem State.withDu_pending (s : State) (x : DerivUnit) : (s.withDu x).pending = s.pending := rfl

@[simp] theorem State.withChans_lc (s : State) (x : Four Channel) : (s.withChans x).lc = s.lc := rfl
@[simp] theorem State.withChans_sa (s : State) (x : Four Channel) : (s.withChans x).sa = s.sa := rfl
@[simp] theorem State.withChans_drt (s : State) (x : Four Channel) : (s.withChans x).drt = s.drt := rfl
@[simp] theorem State.withChans_port (s : State) (x : Four Channel) : (s.withChans x).port = s.port := rfl
@[simp] theorem State.withChans_du (s : State) (x : Four Channel) : (s.withChans x).du = s.du := rfl
@[simp] theorem State.withChans_chans (s : State) (x : Four Channel) : (s.withChans x).chans = x := rfl
@[simp] theorem State.withChans_ps (s : State) (x : Four Channel) : (s.withChans x).ps = s.ps := rfl
@[simp] theorem State.withChans_js (s : State) (x : Four Channel) : (s.withChans x).js = s.js := rfl
@[simp] theorem State.withChans_wt (s : State) (x : Four Channel) : (s.withChans x).wt = s.wt := rfl
@[simp] theorem State.withChans_fu (s : State) (x : Four Channel) : (s.withChans x).fu = s.fu := rfl
@[simp] theorem State.withChans_sites (s : State) (x : Four Channel) : (s.withChans x).sites = s.sites := rfl
@[simp] theorem State.withChans_sup (s : State) (x : Four Channel) : (s.withChans x).sup = s.sup := rfl
@[simp] theorem State.withChans_pwrwarn (s : State) (x : Four Channel) : (s.withChans x).pwrwarn = s.pwrwarn := rfl
@[simp] theorem State.withChans_powered (s : State) (x : Four Channel) : (s.withChans x).powered = s.powered := rfl
@[simp] theorem State.withChans_resetWaiting (s : State) (x : Four Channel) : (s.withChans x).resetWaiting = s.resetWaiting := rfl
@[simp] theorem State.withChans_now (s : State) (x : Four Channel) : (s.withChans x).now = s.now := rfl
@[simp] theorem State.withChans_freeCount (s : State) (x : Four Channel) : (s.withChans x).freeCount = s.freeCount := rfl
@[simp] theorem State.withChans_pending (s : State) (x : Four Channel) : (s.withChans x).pending = s.pending := rfl

@[simp] theorem State.withPs_lc (s : State) (x : ProfileStore) : (s.withPs x).lc = s.lc := rfl
@[simp] theorem State.withPs_sa (s : State) (x : ProfileStore) : (s.withPs x).sa = s.sa := rfl
@[simp] theorem State.withPs_drt (s : State) (x : ProfileStore) : (s.withPs x).drt = s.drt := rfl
@[simp] theorem State.withPs_port (s : State) (x : ProfileStore) : (s.withPs x).port = s.port := rfl
@[simp] theorem State.withPs_du (s : State) (x : ProfileStore) : (s.withPs x).du = s.du := rfl
@[simp] theorem State.withPs_chans (s : State) (x : ProfileStore) : (s.withPs x).chans = s.chans := rfl
@[simp] theorem State.withPs_ps (s : State) (x : ProfileStore) : (s.withPs x).ps = x := rfl
@[simp] theorem State.withPs_js (s : State) (x : ProfileStore) : (s.withPs x).js = s.js := rfl
@[simp] theorem State.withPs_wt (s : State) (x : ProfileStore) : (s.withPs x).wt = s.wt := rfl
@[simp] theorem State.withPs_fu (s : State) (x : ProfileStore) : (s.withPs x).fu = s.fu := rfl
@[simp] theorem State.withPs_sites (s : State) (x : ProfileStore) : (s.withPs x).sites = s.sites := rfl
@[simp] theorem State.withPs_sup (s : State) (x : ProfileStore) : (s.withPs x).sup = s.sup := rfl
@[simp] theorem State.withPs_pwrwarn (s : State) (x : ProfileStore) : (s.withPs x).pwrwarn = s.pwrwarn := rfl
@[simp] theorem State.withPs_powered (s : State) (x : ProfileStore) : (s.withPs x).powered = s.powered := rfl
@[simp] theorem State.withPs_resetWaiting (s : State) (x : ProfileStore) : (s.withPs x).resetWaiting = s.resetWaiting := rfl
@[simp] theorem State.withPs_now (s : State) (x : ProfileStore) : (s.withPs x).now = s.now := rfl
@[simp] theorem State.withPs_freeCount (s : State) (x : ProfileStore) : (s.withPs x).freeCount = s.freeCount := rfl
@[simp] theorem State.withPs_pending (s : State) (x : ProfileStore) : (s.withPs x).pending = s.pending := rfl

@[simp] theorem State.withJs_lc (s : State) (x : Journal) : (s.withJs x).lc = s.lc := rfl
@[simp] theorem State.withJs_sa (s : State) (x : Journal) : (s.withJs x).sa = s.sa := rfl
@[simp] theorem State.withJs_drt (s : State) (x : Journal) : (s.withJs x).drt = s.drt := rfl
@[simp] theorem State.withJs_port (s : State) (x : Journal) : (s.withJs x).port = s.port := rfl
@[simp] theorem State.withJs_du (s : State) (x : Journal) : (s.withJs x).du = s.du := rfl
@[simp] theorem State.withJs_chans (s : State) (x : Journal) : (s.withJs x).chans = s.chans := rfl
@[simp] theorem State.withJs_ps (s : State) (x : Journal) : (s.withJs x).ps = s.ps := rfl
@[simp] theorem State.withJs_js (s : State) (x : Journal) : (s.withJs x).js = x := rfl
@[simp] theorem State.withJs_wt (s : State) (x : Journal) : (s.withJs x).wt = s.wt := rfl
@[simp] theorem State.withJs_fu (s : State) (x : Journal) : (s.withJs x).fu = s.fu := rfl
@[simp] theorem State.withJs_sites (s : State) (x : Journal) : (s.withJs x).sites = s.sites := rfl
@[simp] theorem State.withJs_sup (s : State) (x : Journal) : (s.withJs x).sup = s.sup := rfl
@[simp] theorem State.withJs_pwrwarn (s : State) (x : Journal) : (s.withJs x).pwrwarn = s.pwrwarn := rfl
@[simp] theorem State.withJs_powered (s : State) (x : Journal) : (s.withJs x).powered = s.powered := rfl
@[simp] theorem State.withJs_resetWaiting (s : State) (x : Journal) : (s.withJs x).resetWaiting = s.resetWaiting := rfl
@[simp] theorem State.withJs_now (s : State) (x : Journal) : (s.withJs x).now = s.now := rfl
@[simp] theorem State.withJs_freeCount (s : State) (x : Journal) : (s.withJs x).freeCount = s.freeCount := rfl
@[simp] theorem State.withJs_pending (s : State) (x : Journal) : (s.withJs x).pending = s.pending := rfl

@[simp] theorem State.withWt_lc (s : State) (x : Four WatchEntry) : (s.withWt x).lc = s.lc := rfl
@[simp] theorem State.withWt_sa (s : State) (x : Four WatchEntry) : (s.withWt x).sa = s.sa := rfl
@[simp] theorem State.withWt_drt (s : State) (x : Four WatchEntry) : (s.withWt x).drt = s.drt := rfl
@[simp] theorem State.withWt_port (s : State) (x : Four WatchEntry) : (s.withWt x).port = s.port := rfl
@[simp] theorem State.withWt_du (s : State) (x : Four WatchEntry) : (s.withWt x).du = s.du := rfl
@[simp] theorem State.withWt_chans (s : State) (x : Four WatchEntry) : (s.withWt x).chans = s.chans := rfl
@[simp] theorem State.withWt_ps (s : State) (x : Four WatchEntry) : (s.withWt x).ps = s.ps := rfl
@[simp] theorem State.withWt_js (s : State) (x : Four WatchEntry) : (s.withWt x).js = s.js := rfl
@[simp] theorem State.withWt_wt (s : State) (x : Four WatchEntry) : (s.withWt x).wt = x := rfl
@[simp] theorem State.withWt_fu (s : State) (x : Four WatchEntry) : (s.withWt x).fu = s.fu := rfl
@[simp] theorem State.withWt_sites (s : State) (x : Four WatchEntry) : (s.withWt x).sites = s.sites := rfl
@[simp] theorem State.withWt_sup (s : State) (x : Four WatchEntry) : (s.withWt x).sup = s.sup := rfl
@[simp] theorem State.withWt_pwrwarn (s : State) (x : Four WatchEntry) : (s.withWt x).pwrwarn = s.pwrwarn := rfl
@[simp] theorem State.withWt_powered (s : State) (x : Four WatchEntry) : (s.withWt x).powered = s.powered := rfl
@[simp] theorem State.withWt_resetWaiting (s : State) (x : Four WatchEntry) : (s.withWt x).resetWaiting = s.resetWaiting := rfl
@[simp] theorem State.withWt_now (s : State) (x : Four WatchEntry) : (s.withWt x).now = s.now := rfl
@[simp] theorem State.withWt_freeCount (s : State) (x : Four WatchEntry) : (s.withWt x).freeCount = s.freeCount := rfl
@[simp] theorem State.withWt_pending (s : State) (x : Four WatchEntry) : (s.withWt x).pending = s.pending := rfl

@[simp] theorem State.withFu_lc (s : State) (x : FaultUnit) : (s.withFu x).lc = s.lc := rfl
@[simp] theorem State.withFu_sa (s : State) (x : FaultUnit) : (s.withFu x).sa = s.sa := rfl
@[simp] theorem State.withFu_drt (s : State) (x : FaultUnit) : (s.withFu x).drt = s.drt := rfl
@[simp] theorem State.withFu_port (s : State) (x : FaultUnit) : (s.withFu x).port = s.port := rfl
@[simp] theorem State.withFu_du (s : State) (x : FaultUnit) : (s.withFu x).du = s.du := rfl
@[simp] theorem State.withFu_chans (s : State) (x : FaultUnit) : (s.withFu x).chans = s.chans := rfl
@[simp] theorem State.withFu_ps (s : State) (x : FaultUnit) : (s.withFu x).ps = s.ps := rfl
@[simp] theorem State.withFu_js (s : State) (x : FaultUnit) : (s.withFu x).js = s.js := rfl
@[simp] theorem State.withFu_wt (s : State) (x : FaultUnit) : (s.withFu x).wt = s.wt := rfl
@[simp] theorem State.withFu_fu (s : State) (x : FaultUnit) : (s.withFu x).fu = x := rfl
@[simp] theorem State.withFu_sites (s : State) (x : FaultUnit) : (s.withFu x).sites = s.sites := rfl
@[simp] theorem State.withFu_sup (s : State) (x : FaultUnit) : (s.withFu x).sup = s.sup := rfl
@[simp] theorem State.withFu_pwrwarn (s : State) (x : FaultUnit) : (s.withFu x).pwrwarn = s.pwrwarn := rfl
@[simp] theorem State.withFu_powered (s : State) (x : FaultUnit) : (s.withFu x).powered = s.powered := rfl
@[simp] theorem State.withFu_resetWaiting (s : State) (x : FaultUnit) : (s.withFu x).resetWaiting = s.resetWaiting := rfl
@[simp] theorem State.withFu_now (s : State) (x : FaultUnit) : (s.withFu x).now = s.now := rfl
@[simp] theorem State.withFu_freeCount (s : State) (x : FaultUnit) : (s.withFu x).freeCount = s.freeCount := rfl
@[simp] theorem State.withFu_pending (s : State) (x : FaultUnit) : (s.withFu x).pending = s.pending := rfl

@[simp] theorem State.withSites_lc (s : State) (x : Four SiteLink) : (s.withSites x).lc = s.lc := rfl
@[simp] theorem State.withSites_sa (s : State) (x : Four SiteLink) : (s.withSites x).sa = s.sa := rfl
@[simp] theorem State.withSites_drt (s : State) (x : Four SiteLink) : (s.withSites x).drt = s.drt := rfl
@[simp] theorem State.withSites_port (s : State) (x : Four SiteLink) : (s.withSites x).port = s.port := rfl
@[simp] theorem State.withSites_du (s : State) (x : Four SiteLink) : (s.withSites x).du = s.du := rfl
@[simp] theorem State.withSites_chans (s : State) (x : Four SiteLink) : (s.withSites x).chans = s.chans := rfl
@[simp] theorem State.withSites_ps (s : State) (x : Four SiteLink) : (s.withSites x).ps = s.ps := rfl
@[simp] theorem State.withSites_js (s : State) (x : Four SiteLink) : (s.withSites x).js = s.js := rfl
@[simp] theorem State.withSites_wt (s : State) (x : Four SiteLink) : (s.withSites x).wt = s.wt := rfl
@[simp] theorem State.withSites_fu (s : State) (x : Four SiteLink) : (s.withSites x).fu = s.fu := rfl
@[simp] theorem State.withSites_sites (s : State) (x : Four SiteLink) : (s.withSites x).sites = x := rfl
@[simp] theorem State.withSites_sup (s : State) (x : Four SiteLink) : (s.withSites x).sup = s.sup := rfl
@[simp] theorem State.withSites_pwrwarn (s : State) (x : Four SiteLink) : (s.withSites x).pwrwarn = s.pwrwarn := rfl
@[simp] theorem State.withSites_powered (s : State) (x : Four SiteLink) : (s.withSites x).powered = s.powered := rfl
@[simp] theorem State.withSites_resetWaiting (s : State) (x : Four SiteLink) : (s.withSites x).resetWaiting = s.resetWaiting := rfl
@[simp] theorem State.withSites_now (s : State) (x : Four SiteLink) : (s.withSites x).now = s.now := rfl
@[simp] theorem State.withSites_freeCount (s : State) (x : Four SiteLink) : (s.withSites x).freeCount = s.freeCount := rfl
@[simp] theorem State.withSites_pending (s : State) (x : Four SiteLink) : (s.withSites x).pending = s.pending := rfl

@[simp] theorem State.withSup_lc (s : State) (x : SupLink) : (s.withSup x).lc = s.lc := rfl
@[simp] theorem State.withSup_sa (s : State) (x : SupLink) : (s.withSup x).sa = s.sa := rfl
@[simp] theorem State.withSup_drt (s : State) (x : SupLink) : (s.withSup x).drt = s.drt := rfl
@[simp] theorem State.withSup_port (s : State) (x : SupLink) : (s.withSup x).port = s.port := rfl
@[simp] theorem State.withSup_du (s : State) (x : SupLink) : (s.withSup x).du = s.du := rfl
@[simp] theorem State.withSup_chans (s : State) (x : SupLink) : (s.withSup x).chans = s.chans := rfl
@[simp] theorem State.withSup_ps (s : State) (x : SupLink) : (s.withSup x).ps = s.ps := rfl
@[simp] theorem State.withSup_js (s : State) (x : SupLink) : (s.withSup x).js = s.js := rfl
@[simp] theorem State.withSup_wt (s : State) (x : SupLink) : (s.withSup x).wt = s.wt := rfl
@[simp] theorem State.withSup_fu (s : State) (x : SupLink) : (s.withSup x).fu = s.fu := rfl
@[simp] theorem State.withSup_sites (s : State) (x : SupLink) : (s.withSup x).sites = s.sites := rfl
@[simp] theorem State.withSup_sup (s : State) (x : SupLink) : (s.withSup x).sup = x := rfl
@[simp] theorem State.withSup_pwrwarn (s : State) (x : SupLink) : (s.withSup x).pwrwarn = s.pwrwarn := rfl
@[simp] theorem State.withSup_powered (s : State) (x : SupLink) : (s.withSup x).powered = s.powered := rfl
@[simp] theorem State.withSup_resetWaiting (s : State) (x : SupLink) : (s.withSup x).resetWaiting = s.resetWaiting := rfl
@[simp] theorem State.withSup_now (s : State) (x : SupLink) : (s.withSup x).now = s.now := rfl
@[simp] theorem State.withSup_freeCount (s : State) (x : SupLink) : (s.withSup x).freeCount = s.freeCount := rfl
@[simp] theorem State.withSup_pending (s : State) (x : SupLink) : (s.withSup x).pending = s.pending := rfl

@[simp] theorem State.withPwrwarn_lc (s : State) (x : Bool) : (s.withPwrwarn x).lc = s.lc := rfl
@[simp] theorem State.withPwrwarn_sa (s : State) (x : Bool) : (s.withPwrwarn x).sa = s.sa := rfl
@[simp] theorem State.withPwrwarn_drt (s : State) (x : Bool) : (s.withPwrwarn x).drt = s.drt := rfl
@[simp] theorem State.withPwrwarn_port (s : State) (x : Bool) : (s.withPwrwarn x).port = s.port := rfl
@[simp] theorem State.withPwrwarn_du (s : State) (x : Bool) : (s.withPwrwarn x).du = s.du := rfl
@[simp] theorem State.withPwrwarn_chans (s : State) (x : Bool) : (s.withPwrwarn x).chans = s.chans := rfl
@[simp] theorem State.withPwrwarn_ps (s : State) (x : Bool) : (s.withPwrwarn x).ps = s.ps := rfl
@[simp] theorem State.withPwrwarn_js (s : State) (x : Bool) : (s.withPwrwarn x).js = s.js := rfl
@[simp] theorem State.withPwrwarn_wt (s : State) (x : Bool) : (s.withPwrwarn x).wt = s.wt := rfl
@[simp] theorem State.withPwrwarn_fu (s : State) (x : Bool) : (s.withPwrwarn x).fu = s.fu := rfl
@[simp] theorem State.withPwrwarn_sites (s : State) (x : Bool) : (s.withPwrwarn x).sites = s.sites := rfl
@[simp] theorem State.withPwrwarn_sup (s : State) (x : Bool) : (s.withPwrwarn x).sup = s.sup := rfl
@[simp] theorem State.withPwrwarn_pwrwarn (s : State) (x : Bool) : (s.withPwrwarn x).pwrwarn = x := rfl
@[simp] theorem State.withPwrwarn_powered (s : State) (x : Bool) : (s.withPwrwarn x).powered = s.powered := rfl
@[simp] theorem State.withPwrwarn_resetWaiting (s : State) (x : Bool) : (s.withPwrwarn x).resetWaiting = s.resetWaiting := rfl
@[simp] theorem State.withPwrwarn_now (s : State) (x : Bool) : (s.withPwrwarn x).now = s.now := rfl
@[simp] theorem State.withPwrwarn_freeCount (s : State) (x : Bool) : (s.withPwrwarn x).freeCount = s.freeCount := rfl
@[simp] theorem State.withPwrwarn_pending (s : State) (x : Bool) : (s.withPwrwarn x).pending = s.pending := rfl

@[simp] theorem State.withPowered_lc (s : State) (x : Bool) : (s.withPowered x).lc = s.lc := rfl
@[simp] theorem State.withPowered_sa (s : State) (x : Bool) : (s.withPowered x).sa = s.sa := rfl
@[simp] theorem State.withPowered_drt (s : State) (x : Bool) : (s.withPowered x).drt = s.drt := rfl
@[simp] theorem State.withPowered_port (s : State) (x : Bool) : (s.withPowered x).port = s.port := rfl
@[simp] theorem State.withPowered_du (s : State) (x : Bool) : (s.withPowered x).du = s.du := rfl
@[simp] theorem State.withPowered_chans (s : State) (x : Bool) : (s.withPowered x).chans = s.chans := rfl
@[simp] theorem State.withPowered_ps (s : State) (x : Bool) : (s.withPowered x).ps = s.ps := rfl
@[simp] theorem State.withPowered_js (s : State) (x : Bool) : (s.withPowered x).js = s.js := rfl
@[simp] theorem State.withPowered_wt (s : State) (x : Bool) : (s.withPowered x).wt = s.wt := rfl
@[simp] theorem State.withPowered_fu (s : State) (x : Bool) : (s.withPowered x).fu = s.fu := rfl
@[simp] theorem State.withPowered_sites (s : State) (x : Bool) : (s.withPowered x).sites = s.sites := rfl
@[simp] theorem State.withPowered_sup (s : State) (x : Bool) : (s.withPowered x).sup = s.sup := rfl
@[simp] theorem State.withPowered_pwrwarn (s : State) (x : Bool) : (s.withPowered x).pwrwarn = s.pwrwarn := rfl
@[simp] theorem State.withPowered_powered (s : State) (x : Bool) : (s.withPowered x).powered = x := rfl
@[simp] theorem State.withPowered_resetWaiting (s : State) (x : Bool) : (s.withPowered x).resetWaiting = s.resetWaiting := rfl
@[simp] theorem State.withPowered_now (s : State) (x : Bool) : (s.withPowered x).now = s.now := rfl
@[simp] theorem State.withPowered_freeCount (s : State) (x : Bool) : (s.withPowered x).freeCount = s.freeCount := rfl
@[simp] theorem State.withPowered_pending (s : State) (x : Bool) : (s.withPowered x).pending = s.pending := rfl

@[simp] theorem State.withResetWaiting_lc (s : State) (x : Bool) : (s.withResetWaiting x).lc = s.lc := rfl
@[simp] theorem State.withResetWaiting_sa (s : State) (x : Bool) : (s.withResetWaiting x).sa = s.sa := rfl
@[simp] theorem State.withResetWaiting_drt (s : State) (x : Bool) : (s.withResetWaiting x).drt = s.drt := rfl
@[simp] theorem State.withResetWaiting_port (s : State) (x : Bool) : (s.withResetWaiting x).port = s.port := rfl
@[simp] theorem State.withResetWaiting_du (s : State) (x : Bool) : (s.withResetWaiting x).du = s.du := rfl
@[simp] theorem State.withResetWaiting_chans (s : State) (x : Bool) : (s.withResetWaiting x).chans = s.chans := rfl
@[simp] theorem State.withResetWaiting_ps (s : State) (x : Bool) : (s.withResetWaiting x).ps = s.ps := rfl
@[simp] theorem State.withResetWaiting_js (s : State) (x : Bool) : (s.withResetWaiting x).js = s.js := rfl
@[simp] theorem State.withResetWaiting_wt (s : State) (x : Bool) : (s.withResetWaiting x).wt = s.wt := rfl
@[simp] theorem State.withResetWaiting_fu (s : State) (x : Bool) : (s.withResetWaiting x).fu = s.fu := rfl
@[simp] theorem State.withResetWaiting_sites (s : State) (x : Bool) : (s.withResetWaiting x).sites = s.sites := rfl
@[simp] theorem State.withResetWaiting_sup (s : State) (x : Bool) : (s.withResetWaiting x).sup = s.sup := rfl
@[simp] theorem State.withResetWaiting_pwrwarn (s : State) (x : Bool) : (s.withResetWaiting x).pwrwarn = s.pwrwarn := rfl
@[simp] theorem State.withResetWaiting_powered (s : State) (x : Bool) : (s.withResetWaiting x).powered = s.powered := rfl
@[simp] theorem State.withResetWaiting_resetWaiting (s : State) (x : Bool) : (s.withResetWaiting x).resetWaiting = x := rfl
@[simp] theorem State.withResetWaiting_now (s : State) (x : Bool) : (s.withResetWaiting x).now = s.now := rfl
@[simp] theorem State.withResetWaiting_freeCount (s : State) (x : Bool) : (s.withResetWaiting x).freeCount = s.freeCount := rfl
@[simp] theorem State.withResetWaiting_pending (s : State) (x : Bool) : (s.withResetWaiting x).pending = s.pending := rfl

@[simp] theorem State.withNow_lc (s : State) (x : Nat) : (s.withNow x).lc = s.lc := rfl
@[simp] theorem State.withNow_sa (s : State) (x : Nat) : (s.withNow x).sa = s.sa := rfl
@[simp] theorem State.withNow_drt (s : State) (x : Nat) : (s.withNow x).drt = s.drt := rfl
@[simp] theorem State.withNow_port (s : State) (x : Nat) : (s.withNow x).port = s.port := rfl
@[simp] theorem State.withNow_du (s : State) (x : Nat) : (s.withNow x).du = s.du := rfl
@[simp] theorem State.withNow_chans (s : State) (x : Nat) : (s.withNow x).chans = s.chans := rfl
@[simp] theorem State.withNow_ps (s : State) (x : Nat) : (s.withNow x).ps = s.ps := rfl
@[simp] theorem State.withNow_js (s : State) (x : Nat) : (s.withNow x).js = s.js := rfl
@[simp] theorem State.withNow_wt (s : State) (x : Nat) : (s.withNow x).wt = s.wt := rfl
@[simp] theorem State.withNow_fu (s : State) (x : Nat) : (s.withNow x).fu = s.fu := rfl
@[simp] theorem State.withNow_sites (s : State) (x : Nat) : (s.withNow x).sites = s.sites := rfl
@[simp] theorem State.withNow_sup (s : State) (x : Nat) : (s.withNow x).sup = s.sup := rfl
@[simp] theorem State.withNow_pwrwarn (s : State) (x : Nat) : (s.withNow x).pwrwarn = s.pwrwarn := rfl
@[simp] theorem State.withNow_powered (s : State) (x : Nat) : (s.withNow x).powered = s.powered := rfl
@[simp] theorem State.withNow_resetWaiting (s : State) (x : Nat) : (s.withNow x).resetWaiting = s.resetWaiting := rfl
@[simp] theorem State.withNow_now (s : State) (x : Nat) : (s.withNow x).now = x := rfl
@[simp] theorem State.withNow_freeCount (s : State) (x : Nat) : (s.withNow x).freeCount = s.freeCount := rfl
@[simp] theorem State.withNow_pending (s : State) (x : Nat) : (s.withNow x).pending = s.pending := rfl

@[simp] theorem State.withFreeCount_lc (s : State) (x : Nat) : (s.withFreeCount x).lc = s.lc := rfl
@[simp] theorem State.withFreeCount_sa (s : State) (x : Nat) : (s.withFreeCount x).sa = s.sa := rfl
@[simp] theorem State.withFreeCount_drt (s : State) (x : Nat) : (s.withFreeCount x).drt = s.drt := rfl
@[simp] theorem State.withFreeCount_port (s : State) (x : Nat) : (s.withFreeCount x).port = s.port := rfl
@[simp] theorem State.withFreeCount_du (s : State) (x : Nat) : (s.withFreeCount x).du = s.du := rfl
@[simp] theorem State.withFreeCount_chans (s : State) (x : Nat) : (s.withFreeCount x).chans = s.chans := rfl
@[simp] theorem State.withFreeCount_ps (s : State) (x : Nat) : (s.withFreeCount x).ps = s.ps := rfl
@[simp] theorem State.withFreeCount_js (s : State) (x : Nat) : (s.withFreeCount x).js = s.js := rfl
@[simp] theorem State.withFreeCount_wt (s : State) (x : Nat) : (s.withFreeCount x).wt = s.wt := rfl
@[simp] theorem State.withFreeCount_fu (s : State) (x : Nat) : (s.withFreeCount x).fu = s.fu := rfl
@[simp] theorem State.withFreeCount_sites (s : State) (x : Nat) : (s.withFreeCount x).sites = s.sites := rfl
@[simp] theorem State.withFreeCount_sup (s : State) (x : Nat) : (s.withFreeCount x).sup = s.sup := rfl
@[simp] theorem State.withFreeCount_pwrwarn (s : State) (x : Nat) : (s.withFreeCount x).pwrwarn = s.pwrwarn := rfl
@[simp] theorem State.withFreeCount_powered (s : State) (x : Nat) : (s.withFreeCount x).powered = s.powered := rfl
@[simp] theorem State.withFreeCount_resetWaiting (s : State) (x : Nat) : (s.withFreeCount x).resetWaiting = s.resetWaiting := rfl
@[simp] theorem State.withFreeCount_now (s : State) (x : Nat) : (s.withFreeCount x).now = s.now := rfl
@[simp] theorem State.withFreeCount_freeCount (s : State) (x : Nat) : (s.withFreeCount x).freeCount = x := rfl
@[simp] theorem State.withFreeCount_pending (s : State) (x : Nat) : (s.withFreeCount x).pending = s.pending := rfl

@[simp] theorem State.withPending_lc (s : State) (x : List Instr) : (s.withPending x).lc = s.lc := rfl
@[simp] theorem State.withPending_sa (s : State) (x : List Instr) : (s.withPending x).sa = s.sa := rfl
@[simp] theorem State.withPending_drt (s : State) (x : List Instr) : (s.withPending x).drt = s.drt := rfl
@[simp] theorem State.withPending_port (s : State) (x : List Instr) : (s.withPending x).port = s.port := rfl
@[simp] theorem State.withPending_du (s : State) (x : List Instr) : (s.withPending x).du = s.du := rfl
@[simp] theorem State.withPending_chans (s : State) (x : List Instr) : (s.withPending x).chans = s.chans := rfl
@[simp] theorem State.withPending_ps (s : State) (x : List Instr) : (s.withPending x).ps = s.ps := rfl
@[simp] theorem State.withPending_js (s : State) (x : List Instr) : (s.withPending x).js = s.js := rfl
@[simp] theorem State.withPending_wt (s : State) (x : List Instr) : (s.withPending x).wt = s.wt := rfl
@[simp] theorem State.withPending_fu (s : State) (x : List Instr) : (s.withPending x).fu = s.fu := rfl
@[simp] theorem State.withPending_sites (s : State) (x : List Instr) : (s.withPending x).sites = s.sites := rfl
@[simp] theorem State.withPending_sup (s : State) (x : List Instr) : (s.withPending x).sup = s.sup := rfl
@[simp] theorem State.withPending_pwrwarn (s : State) (x : List Instr) : (s.withPending x).pwrwarn = s.pwrwarn := rfl
@[simp] theorem State.withPending_powered (s : State) (x : List Instr) : (s.withPending x).powered = s.powered := rfl
@[simp] theorem State.withPending_resetWaiting (s : State) (x : List Instr) : (s.withPending x).resetWaiting = s.resetWaiting := rfl
@[simp] theorem State.withPending_now (s : State) (x : List Instr) : (s.withPending x).now = s.now := rfl
@[simp] theorem State.withPending_freeCount (s : State) (x : List Instr) : (s.withPending x).freeCount = s.freeCount := rfl
@[simp] theorem State.withPending_pending (s : State) (x : List Instr) : (s.withPending x).pending = x := rfl

/-! ### Slots of a channel -/

@[simp] theorem Channel.slot_setSlot_same (c : Channel) (l : SlotId) (x : Slot) : (c.setSlot l x).slot l = x := by
  cases l <;> rfl

@[simp] theorem Channel.slot_setSlot_ne (c : Channel) {l m : SlotId} (x : Slot) (h : m ≠ l) :
    (c.setSlot l x).slot m = c.slot m := by
  cases l <;> cases m <;> first | rfl | exact absurd rfl h

end Machine

end Sys2Proof
end

