-- ==== Sys2Proof/Laws/Requests.lean ====
section
/-!
SUPPORT. What a request's checks and a reply come to: a site link or the supervisor link that is ready passes the
request on, and an answer on a lane just taken is a plain reply.
-/

namespace Sys2Proof.Machine

theorem State.live_powered {s : State} (h : s.powered = true) (f : State → State) : s.live f = f s := by
  simp [State.live, h]

theorem State.live_unpowered {s : State} (h : s.powered = false) (f : State → State) : s.live f = s := by
  simp [State.live, h]

/-- A reply changes nothing but the queue it is placed on: the site links' part. -/
theorem State.reply_site (k : Site) (m : Message) (s : State) :
    s.reply (.site k) m = s.withSites (s.sites.set k
      { s.site k with io := { (s.site k).io with replies := (s.site k).io.replies ++ [m] } }) := rfl

/-- A reply changes nothing but the queue it is placed on: the supervisor link's part. -/
theorem State.reply_supervisor (m : Message) (s : State) :
    s.reply .supervisor m = s.withSup { s.sup with io := { s.sup.io with replies := s.sup.io.replies ++ [m] } } := rfl

/-- On a site link that is ready, a request whose lane is free is acted on, and nothing else happens. -/
theorem State.siteRequest_ready {k : Site} {s : State} (h : s.SiteReady k) (kind tag : Byte) (act : State → State) :
    s.siteRequest k kind tag false act = act s := by
  simp [State.siteRequest, h.room, h.running, h.enabled]

/-- On a site link that is ready, a request whose lane is busy is answered BUSY. -/
theorem State.siteRequest_busy {k : Site} {s : State} (h : s.SiteReady k) (kind tag : Byte) (act : State → State) :
    s.siteRequest k kind tag true act = s.reply (.site k) ⟨kind, tag, [16]⟩ := by
  simp [State.siteRequest, h.room, h.running, h.enabled, State.siteReply, Code.word]

/-- The state in which the supervisor link acts on a request it has taken. -/
def State.taken (kind tag : Byte) (s : State) : State :=
  s.withSup { s.sup with lane := some { kind := kind, tag := tag, task := .plain } }

/-- On a supervisor link that is ready, a request takes the lane and is acted on. -/
theorem State.supRequest_ready {s : State} (h : s.SupReady) (kind tag : Byte) (act : State → State) :
    s.supRequest kind tag act = act (s.taken kind tag) := by
  simp [State.supRequest, h.room, h.running, h.free, State.taken]

/-- A request that part STOP does not refuse takes a free lane in either part state. -/
theorem State.supRequest_inStop {s : State} {kind : Byte} (hf : s.full .supervisor = false) (hl : s.sup.lane = none)
    (hk : takenInStop kind = true) (tag : Byte) (act : State → State) :
    s.supRequest kind tag act = act (s.taken kind tag) := by
  simp [State.supRequest, hf, hl, hk, State.taken]

/-- An answer on a lane just taken is a plain reply to a state whose supervisor link is untouched. -/
theorem State.supAnswer_taken {s t : State} {kind tag : Byte} (h : s.sup.lane = none)
    (ht : t.sup = (s.taken kind tag).sup) (code : Word) (ws : List Word) :
    t.supAnswer code ws = (t.withSup s.sup).reply .supervisor ⟨kind, tag, code :: ws⟩ := by
  simp only [State.supAnswer, ht, State.taken, State.withSup_sup, SupLink.answer, State.reply, State.io,
    State.withIo, LinkIo.push, h]
  rfl

end Sys2Proof.Machine
end

