-- ==== Sys2Proof/Laws/Frames.lean ====
section
/-!
SUPPORT. The shared operations on channels, sites, port, faults and derivation entries as plain replacements of one
field of State, so that the field lemmas of Laws/State.lean say what they leave.
-/

namespace Sys2Proof.Machine

@[simp] theorem State.chan_withChans (s : State) (x : Four Channel) (k : Site) : (s.withChans x).chan k = x.get k := rfl
@[simp] theorem State.site_withSites (s : State) (x : Four SiteLink) (k : Site) :
    (s.withSites x).site k = x.get k := rfl

theorem State.modChan_eq (k : Site) (f : Channel → Channel) (s : State) :
    s.modChan k f = s.withChans (s.chans.set k (f (s.chan k))) := rfl

theorem State.modSite_eq (k : Site) (f : SiteLink → SiteLink) (s : State) :
    s.modSite k f = s.withSites (s.sites.set k (f (s.site k))) := rfl

@[simp] theorem State.modChan_chan (k : Site) (f : Channel → Channel) (s : State) :
    (s.modChan k f).chan k = f (s.chan k) := by simp [State.modChan_eq]

@[simp] theorem State.modChan_chan_ne {j k : Site} (f : Channel → Channel) (s : State) (h : j ≠ k) :
    (s.modChan k f).chan j = s.chan j := by simp [State.modChan_eq, h, State.chan]

@[simp] theorem State.modSite_site (k : Site) (f : SiteLink → SiteLink) (s : State) :
    (s.modSite k f).site k = f (s.site k) := by simp [State.modSite_eq]

@[simp] theorem State.modSite_site_ne {j k : Site} (f : SiteLink → SiteLink) (s : State) (h : j ≠ k) :
    (s.modSite k f).site j = s.site j := by simp [State.modSite_eq, h, State.site]

theorem State.place_eq (a : Access) (k : Site) (s : State) :
    s.place a k = s.withPort (s.port ++ [{ access := a, site := k, moment := s.now }]) := rfl

theorem State.report_eq (n : Nat) (k : Option Site) (p : Option Pos) (x : Byte) (s : State) :
    s.report n k p x = s.withFu (s.fu.take { code := n, site := k, pos := p, kind := x, stamp := s.lc.clock }) := rfl

theorem State.modFlags_eq (f : AlertFlags → AlertFlags) (s : State) :
    s.modFlags f = s.withFu { s.fu with flags := f s.fu.flags } := rfl

theorem State.duWithdraw_eq (p : DEntry → Bool) (s : State) : s.duWithdraw p = s.withDu (s.du.withdraw p) := rfl

theorem State.modRecord_eq (i : Nat) (f : DieRecord → DieRecord) (s : State) :
    s.modRecord i f = s.withDrt (s.drt.modify i f) := rfl

theorem State.supAnswer_eq (c : Word) (ws : List Word) (s : State) :
    s.supAnswer c ws = s.withSup (s.sup.answer c ws) := rfl

theorem State.supTask_eq (t : SupTask) (s : State) :
    s.supTask t = s.withSup { s.sup with lane := s.sup.lane.map fun r => { r with task := t } } := rfl

theorem State.answerPrepare_eq (k : Site) (c : Word) (ws : List Word) (s : State) :
    s.answerPrepare k c ws = s.withSites (s.sites.set k (SiteLink.answerCmd c ws (s.site k))) := rfl

theorem State.answerBurn_eq (k : Site) (c : Word) (ws : List Word) (s : State) :
    s.answerBurn k c ws = s.withSites (s.sites.set k (SiteLink.answerBurn c ws (s.site k))) := rfl

end Sys2Proof.Machine
end

