-- ==== Sys2Proof/Laws/Burn.lean ====
section
/-!
SUPPORT. What ending a burn does: after the blank check began, and before it (R118).
-/

namespace Sys2Proof.Machine

theorem State.reportEnding_eq (k : Site) (e : Ending) (halt : Bool) (p : Pos) (s : State) :
    s.reportEnding k e halt p = s.withFu (s.reportEnding k e halt p).fu := by
  unfold State.reportEnding
  cases e.fault <;> by_cases h : halt = true ∧ e ≠ .driverFault <;> simp [h, State.report_eq, State.withFu]

/-- The fault unit after an ending that halts no channel but by its own fault. -/
theorem State.reportEnding_fu {k : Site} {e : Ending} {halt : Bool} (h : halt = false ∨ e = .driverFault) (p : Pos)
    (s : State) :
    (s.reportEnding k e halt p).fu = match e.fault with
      | some n => s.fu.take ⟨n, some k, some p, 0x03, s.lc.clock⟩
      | none => s.fu := by
  unfold State.reportEnding
  have : ¬(halt = true ∧ e ≠ .driverFault) := by rintro ⟨rfl, h2⟩; simp_all
  simp only [if_neg this]
  cases e.fault <;> simp [State.report_eq]

/-- An ending after the blank check began: the channel, the port, the derivation unit and the faults; every other
channel and every other part of the state stays. -/
theorem State.finishBurn_past {k : Site} {l : SlotId} {x : Taking} {s : State} (e : Ending) (halt : Bool)
    (hb : (s.chan k).burning = some l) (ht : ((s.chan k).slot l).taking = some x)
    (hp : (s.chan k).state.past = true) :
    Channel.EndedBy l x e halt (s.chan k) ((s.finishBurn k e halt).chan k) ∧
    State.EndsAt k (if e = .adopted then .adoption else .ending) s (s.finishBurn k e halt) ∧
    (s.finishBurn k e halt).fu = (s.reportEnding k e halt x.pos).fu ∧
    (∀ j, j ≠ k → (s.finishBurn k e halt).chan j = s.chan j) ∧
    { s.finishBurn k e halt with chans := s.chans, port := s.port, fu := s.fu, du := s.du } = s := by
  have : s.finishBurn k e halt = s.endWritten k l x e halt := by
    simp [State.finishBurn, Channel.burningTaking, hb, ht, hp]
  rw [this]
  have hfu : ∀ t : State, t.fu = s.fu → t.lc = s.lc → (t.reportEnding k e halt x.pos).fu =
      (s.reportEnding k e halt x.pos).fu := by
    intro t h1 h2
    unfold State.reportEnding
    cases e.fault <;> by_cases h : halt = true ∧ e ≠ .driverFault <;> simp [h, State.report_eq, h1, h2]
  simp only [State.endWritten, State.leaveBurn]
  rw [State.reportEnding_eq]
  refine ⟨?_, ⟨?_, ?_⟩, ?_, ?_, ?_⟩
  · simp only [State.modChan_eq, State.place_eq, State.duWithdraw_eq, State.chan,
      State.withFu_chans, State.withPort_chans, State.withChans_chans, State.withDu_chans, Four.get_set_same]
    generalize s.chans.get k = c
    unfold Channel.EndedBy
    cases l <;> cases halt <;> cases hd : c.calDeferred <;> by_cases he : e = .contactLost <;>
      simp [Channel.afterBurn, Channel.setSlot, Slot.emptied, Channel.beginCal, hd, Channel.slot, he,
        Channel.endingWrite]
  · simp only [State.modChan_eq, State.place_eq, State.duWithdraw_eq, State.withFu_port, State.withChans_port,
      State.withPort_port, State.withChans_now, State.withPort_now, State.withDu_now, State.withDu_port]
  · simp only [State.modChan_eq, State.place_eq, State.duWithdraw_eq, State.withFu_du, State.withChans_du,
      State.withPort_du, State.withDu_du, DerivUnit.withdraw]
  · exact hfu _ rfl rfl
  · intro j hj
    simp [State.modChan_eq, State.place_eq, State.duWithdraw_eq, State.chan, hj]
  · rfl

end Sys2Proof.Machine
end

