-- ==== Sys2Proof/Laws/Derive.lean ====
section
/-!
SUPPORT. What the derivation unit's operations do (R91 to R95), and what emptying a staging slot does (R84).
-/

namespace Sys2Proof.Machine

/-- A derivation in progress starts no other. -/
theorem State.duStart_busy {s : State} {d : Derivation} (h : s.du.current = some d) : s.duStart = s := by
  simp [State.duStart, h]

/-- An empty queue starts nothing. -/
theorem State.duStart_empty {s : State} (h : s.du.queue = []) : s.duStart = s := by
  unfold State.duStart
  split
  · rfl
  · simp [h, chooseEntry, sitesFrom, takeOldest]

/-- The entry the unit chooses is started with the secret as it stands now. -/
theorem State.duStart_chooses {s : State} {e : DEntry} {rest : List DEntry} {p : Site} (hc : s.du.current = none)
    (h : chooseEntry s.du.pointer s.du.queue = some (e, rest, p)) :
    s.duStart = s.withDu
      { queue := rest
        current := some { entry := e, secret := s.lc.secret.getD Config.absentSecret, discard := false }
        pointer := p } := by
  simp [State.duStart, hc, h]

/-- Starting a derivation changes nothing but the derivation unit. -/
theorem State.duStart_frame (s : State) : s.duStart = s.withDu s.duStart.du := by
  unfold State.duStart
  split
  · rfl
  · split <;> rfl

/-- An entry placed while a derivation runs waits at the tail. -/
theorem State.duPlace_busy {s : State} {d : Derivation} (h : s.du.current = some d) (e : DEntry) :
    s.duPlace e = s.withDu { s.du with queue := s.du.queue ++ [e] } := State.duStart_busy h

/-- Placing an entry changes nothing but the derivation unit. -/
theorem State.duPlace_frame (e : DEntry) (s : State) : s.duPlace e = s.withDu (s.duPlace e).du := by
  simp only [State.duPlace]
  conv_lhs => rw [State.duStart_frame]
  rfl

/-- The oldest entry of a kind is the first that is of it; the others keep their order. -/
theorem takeOldest_sound {p : DEntry → Bool} {q rest : List DEntry} {e : DEntry} (h : takeOldest p q = some (e, rest)) :
    ∃ before after, q = before ++ e :: after ∧ rest = before ++ after ∧ p e = true ∧ ∀ x ∈ before, p x = false := by
  induction q generalizing rest with
  | nil => simp [takeOldest] at h
  | cons x q ih =>
    simp only [takeOldest] at h
    split at h
    · next hx => cases h; exact ⟨[], q, rfl, rfl, hx, by simp⟩
    · next hx =>
      split at h
      · next y rest' hy =>
        cases h
        obtain ⟨before, after, rfl, rfl, h1, h2⟩ := ih hy
        refine ⟨x :: before, after, rfl, rfl, h1, ?_⟩
        intro z hz
        rcases List.mem_cons.mp hz with rfl | hz
        · simpa using hx
        · exact h2 z hz
      · cases h

theorem takeOldest_first {p : DEntry → Bool} {before after : List DEntry} {e : DEntry} (he : p e = true)
    (hb : ∀ x ∈ before, p x = false) : takeOldest p (before ++ e :: after) = some (e, before ++ after) := by
  induction before with
  | nil => simp [takeOldest, he]
  | cons x before ih =>
    have hx : p x = false := hb x (by simp)
    have := ih fun y hy => hb y (by simp [hy])
    simp [takeOldest, hx, this]

theorem takeOldest_none {p : DEntry → Bool} {q : List DEntry} (h : ∀ x ∈ q, p x = false) : takeOldest p q = none := by
  induction q with
  | nil => rfl
  | cons x q ih =>
    have hx : p x = false := h x (by simp)
    simp [takeOldest, hx, ih fun y hy => h y (by simp [hy])]

/-- Emptying a slot: the slot, with discard pending set when its derivation is in progress, and the derivation unit
without its entry; nothing else changes. -/
theorem State.emptySlot_eq (k : Site) (l : SlotId) (s : State) :
    s.emptySlot k l =
      (s.withDu (s.du.withdraw (DEntry.isSlot k l))).withChans (s.chans.set k ((s.chan k).setSlot l
        { (s.chan k).slot l with
          state := .empty
          taking := none
          image := none
          discardPending := ((s.chan k).slot l).discardPending || s.du.runs (DEntry.isSlot k l) })) := by
  simp only [State.emptySlot, State.duWithdraw_eq, State.modChan_eq, State.withDu_chans, State.chan]
  congr 3
  cases h : s.du.runs (DEntry.isSlot k l) <;> simp [Slot.emptied]

end Sys2Proof.Machine
end

