-- ==== Sys2Proof/Laws/Journal.lean ====
section
/-!
SUPPORT. What the journal store's and the serial allocator's operations do (R143 to R147, R22 to R26).
-/

namespace Sys2Proof.Machine

/-- With nothing on the queue no write is begun. -/
theorem State.jsStart_empty {s : State} (h : s.js.queue = []) : s.jsStart = s := by simp [State.jsStart, h]

/-- A write in progress, a hold or a stopped journal begins no other (R145). -/
theorem State.jsStart_blocked {s : State}
    (h : s.js.write.isSome = true ∨ s.js.held = true ∨ s.js.stopped = true) : s.jsStart = s := by
  unfold State.jsStart
  split
  · rfl
  · rw [if_pos h]

/-- The next write of a free journal: the head of the queue, its value fixed now (R143, R145). -/
theorem State.jsStart_begins {s : State} {e : JEntry} {rest : List JEntry} (hq : s.js.queue = e :: rest)
    (hw : s.js.write = none) (hh : s.js.held = false) (hs : s.js.stopped = false) :
    s.jsStart = s.withJs { s.js with
      queue := rest
      write := some { entry := e, value := e.value s.sa.mark s.js.rideMirror, second := false, phase := .erase,
                      elapsed := 0 } } := by
  simp [State.jsStart, hq, hw, hh, hs]

/-- The journal's next write changes nothing but the journal store. -/
theorem State.jsStart_frame (s : State) : s.jsStart = s.withJs s.jsStart.js := by
  unfold State.jsStart
  split
  · rfl
  · split <;> rfl

/-- Placing entries changes nothing but the journal store, and no word of it. -/
theorem State.jsPlace_frame (es : List JEntry) (s : State) : s.jsPlace es = s.withJs (s.jsPlace es).js := by
  simp only [State.jsPlace]
  conv_lhs => rw [State.jsStart_frame]
  rfl

theorem State.jsStart_words (s : State) : s.jsStart.js.words = s.js.words := by
  unfold State.jsStart
  split
  · rfl
  · split <;> rfl

/-- The read of a word after a write: the word written if the journal has it. -/
theorem Journal.word_setWord (j : Journal) (n m : Nat) (v : Word) :
    (j.setWord n v).word m = if m = n ∧ n < 32 then v else j.word m := by
  simp only [Journal.word, Journal.setWord, Vector.getElem?_setIfInBounds]
  by_cases h : n = m
  · subst h
    by_cases hn : n < 32
    · simp [hn]
    · simp [hn]
  · simp [h, Ne.symm h]

/-- A draw from a block that has a serial takes that serial, counts it and tests for a prefetch (R24, R26, R35). -/
theorem State.draw_usable {k : Site} {s : State} {c : Block} (hc : (s.sa.blocks.get k).current = some c)
    (hn : c.next < c.stop) :
    s.draw k = (s.takeSerial k c (s.sa.blocks.get k).next, .drawn (BitVec.ofNat 32 c.next)) := by
  simp [State.draw, SiteBlocks.usable, hc, hn]

/-- With no usable block the next block decides (R24). -/
theorem State.draw_unusable {k : Site} {s : State} (h : (s.sa.blocks.get k).usable = none) :
    s.draw k = match (s.sa.blocks.get k).next with
      | .ready start stop =>
        (s.takeSerial k { next := start, stop := stop } .absent, .drawn (BitVec.ofNat 32 start))
      | .pending => (s, .waits)
      | .absent =>
        if s.sa.exhausted then (s, .exhausted)
        else if s.windowAllows then (s.queueAdvance k, .waits) else (s.setExhausted, .exhausted) := by
  simp only [State.draw, h] <;> rfl

/-- A prefetch leaves the serials drawn and every current block (R26). -/
theorem State.prefetch_sa (k j : Site) (s : State) :
    (s.prefetch k).sa.drawn = s.sa.drawn ∧ ((s.prefetch k).sa.blocks.get j).current = (s.sa.blocks.get j).current := by
  unfold State.prefetch
  split
  · split
    · rw [State.queueAdvance, State.jsPlace_frame]
      simp only [State.withJs_sa, State.withSa_sa, true_and, Four.get_set]
      split
      · next h => subst h; rfl
      · rfl
    · unfold State.setExhausted
      simp only
      split <;> exact ⟨rfl, rfl⟩
  · exact ⟨rfl, rfl⟩

/-- A tick reaches the word of the write in progress alone, at the end of its erase or program phase (R146, R147). -/
theorem Journal.tick_word (j : Journal) (n : Nat) :
    j.tick.word n = match j.write with
      | none => j.word n
      | some w =>
        if n = w.entry.word ∧ n < 32 ∧ (w.phase = .erase ∨ w.phase = .finalErase) ∧ 34 ≤ w.elapsed then 0xFFFF
        else if n = w.entry.word ∧ n < 32 ∧ w.phase = .program ∧ 39 ≤ w.elapsed then j.word n &&& w.value
        else j.word n := by
  unfold Journal.tick
  cases j.write with
  | none => rfl
  | some w =>
    have e (i : Journal) : ({ i with write := some w.tick } : Journal).word n = i.word n := rfl
    simp only [e, Journal.phaseEnds]
    cases hp : w.phase <;> simp only [reduceCtorEq, false_or, or_false, false_and, and_false, if_false, true_and]
    all_goals
      try split
      all_goals try rw [Journal.word_setWord]
      all_goals grind

/-- What else a tick leaves in the journal store. -/
theorem Journal.tick_frame (j : Journal) :
    { j.tick with words := j.words, write := j.write } = j ∧ j.tick.write = j.write.map JWrite.tick := by
  unfold Journal.tick Journal.phaseEnds
  split
  · next h => exact ⟨rfl, by simp [h]⟩
  · next w h =>
    refine ⟨?_, by simp [h]⟩
    cases w.phase <;> simp only <;> (try split) <;> rfl

/-- The word a loss of supply cuts holds a free value, and no other word changes (R151). -/
theorem State.cutWrite_word (s : State) (n : Nat) :
    s.cutWrite.js.word n =
      if ∃ w, s.js.write = some w ∧ n = w.entry.word ∧ n < 32 then Config.freeWord s.freeCount else s.js.word n := by
  unfold State.cutWrite
  split
  · next h => simp [h]
  · next w h =>
    have e : (({ s.js.setWord w.entry.word (Config.freeWord s.freeCount) with write := none } : Journal)).word n =
      (s.js.setWord w.entry.word (Config.freeWord s.freeCount)).word n := rfl
    simp only [State.withFreeCount_js, State.withJs_js, e, Journal.word_setWord, h]
    by_cases h1 : n = w.entry.word
    · subst h1; simp
    · simp [h1]

end Sys2Proof.Machine
end

