-- ==== Sys2Proof/Laws/Port.lean ====
section
/-!
SUPPORT. What taking an access from the die record table's port does (R44).
-/

namespace Sys2Proof.Machine

/-- The oldest waiting access is taken by its own requester. -/
theorem takeEntry_front {k : Site} {b : Bool} {p : Access → Bool} {e : PortEntry} (hk : e.site = k)
    (hb : e.access.byChannel = b) (hp : p e.access = true) (rest : List PortEntry) :
    takeEntry k b p (e :: rest) = some (e, rest) := by simp [takeEntry, hk, hb, hp]

/-- Whatever is taken is an access of the requester that the command names; those before it arrived together with it
and are other requesters', and nothing else leaves the port. -/
theorem takeEntry_sound {k : Site} {b : Bool} {p : Access → Bool} {l rest : List PortEntry} {e : PortEntry}
    (h : takeEntry k b p l = some (e, rest)) :
    e.site = k ∧ e.access.byChannel = b ∧ p e.access = true ∧
    ∃ before after, l = before ++ e :: after ∧ rest = before ++ after ∧
      ∀ x ∈ before, x.moment = e.moment ∧ ¬(x.site = k ∧ x.access.byChannel = b) := by
  induction l generalizing rest with
  | nil => simp [takeEntry] at h
  | cons x l ih =>
    simp only [takeEntry] at h
    split at h
    · next hx =>
      split at h
      · next hp =>
        cases h
        exact ⟨hx.1, hx.2, hp, [], l, rfl, rfl, by simp⟩
      · cases h
    · next hx =>
      split at h
      · next y rest' hy =>
        split at h
        · next hm =>
          cases h
          obtain ⟨h1, h2, h3, before, after, rfl, rfl, h4⟩ := ih hy
          refine ⟨h1, h2, h3, x :: before, after, rfl, rfl, ?_⟩
          intro z hz
          rcases List.mem_cons.mp hz with rfl | hz
          · exact ⟨hm.symm, hx⟩
          · exact h4 z hz
        · cases h
      · cases h

/-- The oldest waiting access, taken in the state. -/
theorem State.takeAccess_front {s : State} {a : Access} {k : Site} {m : Nat} {rest : List PortEntry}
    (h : s.port = { access := a, site := k, moment := m } :: rest) {p : Access → Bool} (hp : p a = true) {b : Bool}
    (hb : a.byChannel = b) : s.takeAccess k b p = some (a, s.withPort rest) := by
  subst hb
  simp [State.takeAccess, h, takeEntry, hp]

/-- With no access selected there is nothing to take. -/
theorem State.drain_idle {p : PortEntry → Bool} {s : State} (h : ∀ e ∈ s.port, p e = false) : s.drain p = s := by
  have h1 : s.port.filter p = [] := List.filter_eq_nil_iff.mpr fun e he => by simp [h e he]
  have h2 : s.port.filter (fun e => !p e) = s.port := List.filter_eq_self.mpr fun e he => by simp [h e he]
  simp only [State.drain, h1, h2, List.foldl_nil]
  rfl

/-- An access whose own command takes it goes ahead when no older access and none of its requester waits. -/
theorem State.drainFor_idle {k : Site} {b : Bool} {s : State}
    (h : ∀ e ∈ s.port, e.moment = s.now ∧ ¬(e.site = k ∧ e.access.byChannel = b)) : s.drainFor k b = s :=
  State.drain_idle fun e he => by
    have := h e he
    simp only [PortEntry.before, this.1]
    by_cases h1 : e.site = k <;> simp_all

/-- With no access waiting there is nothing to drain. -/
theorem State.drainPort_nil {s : State} (h : s.port = []) : s.drainPort = s := State.drain_idle (by simp [h])

theorem State.drainAll_nil {s : State} (h : s.port = []) : s.drainAll = s := by
  simp [State.drainAll, State.drainPort_nil h]

end Sys2Proof.Machine
end

