-- ==== Sys2Proof/Laws/Drain.lean ====
section
/-!
SUPPORT. What the taking of the accesses that wait may do (R44): the blocks it never reaches, the accesses it may place
anew, and the qualifications it leaves as they are; and that three rounds empty the port.
-/

namespace Sys2Proof.Machine

/-- How many rounds of accesses the taking of one may still cause: a lookup may place a binding and that a slot access, a
serial lookup may place an ending write. -/
def Access.rounds : Access → Nat
  | .lookup => 2
  | .binding | .serialLookup => 1
  | .slotTaking | .clearing _ | .ending | .adoption => 0

/-- What holds between a state and the state after accesses with at most `n` rounds behind them were taken. -/
structure State.Took (n : Nat) (s t : State) : Prop where
  /-- lot controller, profile store, supervisor link, pins, tick and queue are not reached -/
  keeps : { t with sa := s.sa, drt := s.drt, port := s.port, du := s.du, chans := s.chans, js := s.js, wt := s.wt,
                   fu := s.fu, sites := s.sites } = s
  /-- only accesses with fewer rounds behind them are placed -/
  places : ∀ x ∈ t.port, x ∈ s.port ∨ x.access.rounds < n
  /-- no channel enters QUALIFYING, and one that is in it keeps its count and snapshot -/
  qualifies : ∀ j, (t.chan j).state = .qualifying → (s.chan j).state = .qualifying ∧
    (t.chan j).qualCounter = (s.chan j).qualCounter ∧ (t.chan j).snapshot = (s.chan j).snapshot

theorem State.Took.refl (n : Nat) (s : State) : State.Took n s s :=
  ⟨rfl, fun _ h => .inl h, fun _ h => ⟨h, rfl, rfl⟩⟩

theorem State.Took.trans {n : Nat} {s t u : State} (h : State.Took n s t) (g : State.Took n t u) :
    State.Took n s u := by
  refine ⟨?_, fun x hx => (g.places x hx).elim (h.places x) .inr, fun j hj => ?_⟩
  · have h1 := h.keeps
    have h2 := g.keeps
    cases s; cases t; cases u
    simp only [State.mk.injEq, true_and] at h1 h2 ⊢
    simp_all
  · obtain ⟨a, b, c⟩ := g.qualifies j hj
    obtain ⟨a', b', c'⟩ := h.qualifies j a
    exact ⟨a', b.trans b', c.trans c'⟩

theorem State.Took.mono {n m : Nat} {s t : State} (h : State.Took n s t) (hm : n ≤ m) : State.Took m s t :=
  ⟨h.keeps, fun x hx => (h.places x hx).imp_right fun g => Nat.lt_of_lt_of_le g hm, h.qualifies⟩

section
variable (n : Nat) (s : State)

theorem State.took_withSa (x : Allocator) : State.Took n s (s.withSa x) :=
  ⟨rfl, fun _ h => .inl h, fun _ h => ⟨h, rfl, rfl⟩⟩
theorem State.took_withDrt (x : Table) : State.Took n s (s.withDrt x) :=
  ⟨rfl, fun _ h => .inl h, fun _ h => ⟨h, rfl, rfl⟩⟩
theorem State.took_withDu (x : DerivUnit) : State.Took n s (s.withDu x) :=
  ⟨rfl, fun _ h => .inl h, fun _ h => ⟨h, rfl, rfl⟩⟩
theorem State.took_withJs (x : Journal) : State.Took n s (s.withJs x) :=
  ⟨rfl, fun _ h => .inl h, fun _ h => ⟨h, rfl, rfl⟩⟩
theorem State.took_withWt (x : Four WatchEntry) : State.Took n s (s.withWt x) :=
  ⟨rfl, fun _ h => .inl h, fun _ h => ⟨h, rfl, rfl⟩⟩
theorem State.took_withFu (x : FaultUnit) : State.Took n s (s.withFu x) :=
  ⟨rfl, fun _ h => .inl h, fun _ h => ⟨h, rfl, rfl⟩⟩
theorem State.took_withSites (x : Four SiteLink) : State.Took n s (s.withSites x) :=
  ⟨rfl, fun _ h => .inl h, fun _ h => ⟨h, rfl, rfl⟩⟩
theorem State.took_filter (p : PortEntry → Bool) : State.Took n s (s.withPort (s.port.filter p)) :=
  ⟨rfl, fun _ h => .inl (List.mem_filter.mp h).1, fun _ h => ⟨h, rfl, rfl⟩⟩

theorem State.took_place {a : Access} (h : a.rounds < n) (k : Site) : State.Took n s (s.place a k) :=
  ⟨rfl, fun x hx => (List.mem_append.mp hx).imp_right fun g => by rw [List.mem_singleton.mp g]; exact h,
    fun _ h => ⟨h, rfl, rfl⟩⟩

theorem State.took_modSite (k : Site) (f : SiteLink → SiteLink) : State.Took n s (s.modSite k f) :=
  State.took_withSites n s _
theorem State.took_modRecord (i : Nat) (f : DieRecord → DieRecord) : State.Took n s (s.modRecord i f) :=
  State.took_withDrt n s _
theorem State.took_answerPrepare (k : Site) (c : Word) (ws : List Word) : State.Took n s (s.answerPrepare k c ws) :=
  State.took_withSites n s _
theorem State.took_answerBurn (k : Site) (c : Word) (ws : List Word) : State.Took n s (s.answerBurn k c ws) :=
  State.took_withSites n s _

/-- A channel changed so that it is not QUALIFYING, or so that its qualification stays. -/
theorem State.took_modChan {k : Site} {f : Channel → Channel}
    (h : (f (s.chan k)).state = .qualifying → (s.chan k).state = .qualifying ∧
      (f (s.chan k)).qualCounter = (s.chan k).qualCounter ∧ (f (s.chan k)).snapshot = (s.chan k).snapshot) :
    State.Took n s (s.modChan k f) := by
  refine ⟨rfl, fun _ h => .inl h, fun j hj => ?_⟩
  by_cases hk : j = k
  · subst hk
    rw [State.modChan_chan] at hj ⊢
    exact h hj
  · rw [State.modChan_chan_ne f s hk] at hj ⊢
    exact ⟨hj, rfl, rfl⟩

theorem State.took_duStart : State.Took n s s.duStart := by
  unfold State.duStart
  split
  · exact .refl n s
  · split
    · exact .refl n s
    · exact State.took_withDu n s _

theorem State.took_duPlace (e : DEntry) : State.Took n s (s.duPlace e) :=
  (State.took_withDu n s _).trans (State.took_duStart n _)

theorem State.took_watchHits (m : WatchContent → Bool) : State.Took n s (s.watchHits m) := by
  simp only [State.watchHits]
  split
  · exact (State.took_withWt n s _).trans (State.took_withFu n _ _)
  · exact State.took_withWt n s _

theorem State.took_queueAdvance (k : Site) : State.Took n s (s.queueAdvance k) := by
  rw [State.queueAdvance, State.jsPlace_frame]
  exact (State.took_withSa n s _).trans (State.took_withJs n _ _)

theorem State.took_setExhausted : State.Took n s s.setExhausted := by
  simp only [State.setExhausted]
  split
  · exact State.took_withSa n s _
  · exact (State.took_withSa n s _).trans (State.took_withFu n _ _)

theorem State.took_prefetch (k : Site) : State.Took n s (s.prefetch k) := by
  unfold State.prefetch
  split
  · split
    · exact State.took_queueAdvance n s k
    · exact State.took_setExhausted n s
  · exact .refl n s

theorem State.took_takeSerial (k : Site) (b : Block) (x : NextBlock) : State.Took n s (s.takeSerial k b x) := by
  unfold State.takeSerial
  exact (State.took_withSa n s _).trans (State.took_prefetch n _ k)

theorem State.took_draw (k : Site) : State.Took n s (s.draw k).1 := by
  simp only [State.draw]
  split
  · exact State.took_takeSerial n s ..
  · split
    · exact State.took_takeSerial n s ..
    · exact .refl n s
    · split
      · exact .refl n s
      · split
        · exact State.took_queueAdvance n s k
        · exact State.took_setExhausted n s

theorem State.took_reportEnding (k : Site) (e : Ending) (halt : Bool) (p : Pos) :
    State.Took n s (s.reportEnding k e halt p) := by
  rw [State.reportEnding_eq]
  exact State.took_withFu n s _
end

theorem Channel.afterBurn_state (e : Option Ending) (halt : Bool) (c : Channel) :
    (Channel.afterBurn e halt c).state ≠ .qualifying := by
  unfold Channel.afterBurn
  split
  · simp
  · split <;> simp [Channel.beginCal]

theorem State.took_leaveBurn (n : Nat) (s : State) (k : Site) (e : Ending) (halt : Bool) (p : Pos) :
    State.Took n s (s.leaveBurn k e halt p) :=
  (State.took_reportEnding n s k e halt p).trans
    (State.took_modChan n _ fun h => (Channel.afterBurn_state _ _ _ h).elim)

/-- The ending of a burn places at most an ending write. -/
theorem State.took_finishBurn (s : State) (k : Site) (e : Ending) (halt : Bool) :
    State.Took 1 s (s.finishBurn k e halt) := by
  unfold State.finishBurn
  split
  · exact .refl 1 s
  · split
    · simp only [State.endWritten]
      refine State.Took.trans ?_ ((State.took_place 1 _ ?_ k).trans (State.took_leaveBurn 1 _ ..))
      · refine State.Took.trans ((State.took_withDu 1 s _).trans (State.took_filter 1 _ _))
          (State.took_modChan 1 _ fun h => ?_)
        rename_i l _ _ _
        cases l <;> exact ⟨h, rfl, rfl⟩
      · split <;> decide
    · simp only [State.endUnwritten]
      refine (State.took_modChan 1 s fun h => ?_).trans ((State.took_leaveBurn 1 _ ..).trans (State.took_answerBurn 1 _ ..))
      rename_i l _ _ _
      cases l <;> exact ⟨h, rfl, rfl⟩

theorem State.took_endClaimed {n : Nat} (h : 0 < n) (s : State) (k : Site) (i : Nat) (c : Code) :
    State.Took n s (s.endClaimed k i c) :=
  (State.took_answerPrepare n s ..).trans (State.took_place n _ (a := .clearing i) h k)

theorem State.took_endAborted {n : Nat} (h : 0 < n) (s : State) (k : Site) (i : Nat) (clear : Bool) :
    State.Took n s (s.endAborted k i clear) := by
  unfold State.endAborted
  split
  · exact State.took_endClaimed h s k i _
  · exact State.took_answerPrepare n s ..

theorem State.took_toSlot {n : Nat} (h : 0 < n) (s : State) (k : Site) (i : Nat) : State.Took n s (s.toSlot k i) :=
  (State.took_modSite n s ..).trans (State.took_place n _ (a := .slotTaking) h k)

theorem State.took_drawStep (s : State) (k : Site) (i : Nat) : State.Took 2 s (s.drawStep k i) := by
  have hd := State.took_draw 2 s k
  unfold State.drawStep
  split
  · exact State.took_endClaimed (by decide) s k i _
  · revert hd
    cases h : s.draw k with
    | mk s1 r =>
      intro hd
      cases r with
      | drawn m => exact hd.trans ((State.took_modSite 2 _ ..).trans (State.took_place 2 _ (by decide) k))
      | waits =>
        refine hd.trans ?_
        dsimp only
        split
        · exact State.took_endAborted (by decide) _ k i _
        · exact State.took_modSite 2 _ ..
      | exhausted => exact hd.trans (State.took_endClaimed (by decide) _ k i _)

theorem State.took_lookupAccess (s : State) (k : Site) (p : Pos) : State.Took 2 s (s.lookupAccess k p) := by
  have ans (c : Word) (ws : List Word) : State.Took 2 s (s.answerPrepare k c ws) := State.took_answerPrepare 2 s ..
  unfold State.lookupAccess
  split
  · split
    · exact ans ..
    · split
      · exact (State.took_withDrt 2 s _).trans (State.took_drawStep _ k _)
      · exact ans ..
  · split
    · exact .refl 2 s
    · dsimp only
      split
      · split
        · unfold State.claimReserved
          split
          · dsimp only
            split
            · exact (State.took_modRecord 2 s ..).trans (State.took_drawStep _ k _)
            · exact (State.took_modRecord 2 s ..).trans (State.took_toSlot (by decide) _ k _)
          · exact ans ..
        · split
          · split <;> exact ans ..
          · exact ans ..
      · exact ans ..
      all_goals first
        | exact ans ..
        | (split
           · exact ans ..
           · split
             · exact (State.took_modRecord 2 s ..).trans (State.took_toSlot (by decide) _ k _)
             · exact ans ..)

theorem State.took_lookupTaken (s : State) (k : Site) (p : Pos) : State.Took 2 s (s.lookupTaken k p) :=
  (State.took_lookupAccess s k p).trans (State.took_modSite 2 _ ..)

theorem State.took_bindAccess (s : State) (k : Site) (i : Nat) (m : Serial) :
    State.Took 1 s (s.bindAccess k i m) := by
  have h1 : State.Took 1 s ((s.modRecord i (DieRecord.bound m)).watchHits (WatchContent.atSerial m)) :=
    (State.took_modRecord 1 s ..).trans (State.took_watchHits 1 _ _)
  unfold State.bindAccess
  refine h1.trans ?_
  dsimp only
  split
  · exact State.took_modSite 1 _ ..
  · exact State.took_toSlot (by decide) _ k i

theorem State.took_slotAccess (s : State) (k : Site) (i : Nat) : State.Took 0 s (s.slotAccess k i) := by
  unfold State.slotAccess
  split
  · rename_i l r _ _
    split
    · exact .refl 0 s
    · exact (((State.took_modChan 0 s fun h => by cases l <;> exact ⟨h, rfl, rfl⟩).trans
        (State.took_modRecord 0 _ ..)).trans (State.took_duPlace 0 _ _)).trans (State.took_answerPrepare 0 _ ..)
  · exact .refl 0 s

theorem State.took_clearClaim (s : State) (k : Site) (i : Nat) : State.Took 0 s (s.clearClaim k i) := by
  unfold State.clearClaim
  split
  · exact .refl 0 s
  · split
    · exact State.took_modRecord 0 s ..
    · exact .refl 0 s

theorem State.took_answerEnded (s : State) (k : Site) (w : EndWrite) (e : Ending) (m : Serial) (r r' : DieRecord) :
    State.Took 0 s (s.answerEnded k w e m r r') :=
  (State.took_modChan 0 s fun h => ⟨h, rfl, rfl⟩).trans (State.took_answerBurn 0 _ ..)

theorem State.took_takeEnding (s : State) (k : Site) : State.Took 0 s (s.takeEnding k) := by
  unfold State.takeEnding
  split
  · exact .refl 0 s
  · split
    · exact .refl 0 s
    · exact (State.took_modRecord 0 s ..).trans (State.took_answerEnded _ ..)

theorem State.took_takeAdoption (s : State) (k : Site) : State.Took 0 s (s.takeAdoption k) := by
  unfold State.takeAdoption
  split
  · exact .refl 0 s
  · split
    · exact .refl 0 s
    · split
      · exact (State.took_modRecord 0 s ..).trans (State.took_answerEnded _ ..)
      · exact (((State.took_modRecord 0 s ..).trans (State.took_withDrt 0 _ _)).trans
          (State.took_watchHits 0 _ _)).trans (State.took_answerEnded _ ..)

theorem State.took_answerLookup (s : State) (k : Site) : State.Took 1 s (s.answerLookup k) := by
  unfold State.answerLookup
  split
  · unfold State.lookupAnswered
    split
    · exact State.took_finishBurn s ..
    · exact (State.took_modChan 1 s fun h => by simp at h).trans (State.took_duPlace 1 _ _)
  · exact .refl 1 s

/-- One waiting access is taken. -/
theorem State.took_takeWaiting (s : State) (e : PortEntry) : State.Took e.access.rounds s (s.takeWaiting e) := by
  unfold State.takeWaiting
  cases he : e.access with
  | lookup =>
    dsimp only [Access.rounds, State.prepareAccess]
    split
    · exact .refl _ s
    · split <;> first | exact State.took_lookupTaken s .. | exact .refl _ s | contradiction
  | binding =>
    dsimp only [Access.rounds, State.prepareAccess]
    split
    · exact .refl _ s
    · split <;> first | exact State.took_bindAccess s .. | exact .refl _ s | contradiction
  | slotTaking =>
    dsimp only [Access.rounds, State.prepareAccess]
    split
    · exact .refl _ s
    · split <;> first | exact State.took_slotAccess s .. | exact .refl _ s | contradiction
  | clearing i => exact State.took_clearClaim s ..
  | ending => exact State.took_takeEnding s _
  | adoption => exact State.took_takeAdoption s _
  | serialLookup => exact State.took_answerLookup s _

/-- The accesses that `p` selects are taken; each had at most `n` rounds behind it. -/
theorem State.took_drain {n : Nat} {p : PortEntry → Bool} {s : State} (h : ∀ e ∈ s.port, p e = true → e.access.rounds ≤ n) :
    State.Took n (s.withPort (s.port.filter fun e => !p e)) (s.drain p) := by
  have fold : ∀ (es : List PortEntry) (t : State), (∀ e ∈ es, e.access.rounds ≤ n) →
      State.Took n t (es.foldl State.takeWaiting t) := by
    intro es
    induction es with
    | nil => exact fun t _ => .refl n t
    | cons e es ih =>
      intro t he
      exact ((State.took_takeWaiting t e).mono (he e (by simp))).trans (ih _ fun x hx => he x (by simp [hx]))
  exact fold _ _ fun e he => h e (List.mem_filter.mp he).1 (List.mem_filter.mp he).2

theorem Access.rounds_le (a : Access) : a.rounds ≤ 2 := by cases a <;> simp [Access.rounds]

/-- What waits at the port before an access of its own command is taken reaches no other block. -/
theorem State.took_drainFor (k : Site) (b : Bool) (s : State) : State.Took 2 s (s.drainFor k b) :=
  (State.took_filter 2 s _).trans (State.took_drain fun e _ _ => e.access.rounds_le)

theorem State.took_drainPort (s : State) : State.Took 2 s s.drainPort :=
  (State.took_filter 2 s _).trans (State.took_drain fun e _ _ => e.access.rounds_le)

theorem State.took_drainAll (s : State) : State.Took 2 s s.drainAll :=
  ((State.took_drainPort s).trans (State.took_drainPort _)).trans (State.took_drainPort _)

/-- A round leaves only accesses with fewer rounds behind them. -/
theorem State.drainPort_rounds {n : Nat} {s : State} (h : ∀ e ∈ s.port, e.access.rounds ≤ n) :
    ∀ e ∈ s.drainPort.port, e.access.rounds < n := by
  intro e he
  have := (State.took_drain (n := n) (p := fun _ => true) (s := s) fun e he _ => h e he).places e he
  simpa using this

/-- Three rounds leave nothing at the port. -/
theorem State.drainAll_port (s : State) : s.drainAll.port = [] := by
  refine List.eq_nil_iff_forall_not_mem.mpr fun e he => ?_
  have h1 := State.drainPort_rounds (s := s) fun e _ => e.access.rounds_le
  have h2 := State.drainPort_rounds (s := s.drainPort) (n := 1) fun e he => Nat.le_of_lt_succ (h1 e he)
  have h3 := State.drainPort_rounds (s := s.drainPort.drainPort) (n := 0) fun e he => Nat.le_of_lt_succ (h2 e he)
  exact absurd (h3 e he) (Nat.not_lt_zero _)

/-- Supervisor link, pins and queue are not reached by what waits at the port. -/
theorem State.Took.fields {n : Nat} {s t : State} (h : State.Took n s t) :
    t.lc = s.lc ∧ t.ps = s.ps ∧ t.sup = s.sup ∧ t.pwrwarn = s.pwrwarn ∧ t.powered = s.powered ∧
    t.resetWaiting = s.resetWaiting ∧ t.now = s.now ∧ t.freeCount = s.freeCount ∧ t.pending = s.pending := by
  have := h.keeps
  cases s; cases t
  simp only [State.mk.injEq, true_and] at this ⊢
  simp_all

end Sys2Proof.Machine
end

