-- ==== Sys2Proof/Laws/Lanes.lean ====
section
/-!
SUPPORT. What answering a lane does on a site with no ABORT waiting (R159, R160), and what ending the work of a site
with free lanes does.
-/

namespace Sys2Proof.Machine

theorem SiteLink.settleAborts_nil {sl : SiteLink} (h : sl.aborts = []) : sl.settleAborts = sl := by
  cases sl; simp_all [SiteLink.settleAborts]

theorem SiteLink.answerCmd_alone {sl : SiteLink} {q : PrepReq} (hc : sl.cmd = some q) (ha : sl.aborts = [])
    (code : Word) (ws : List Word) :
    sl.answerCmd code ws = { sl with
      cmd := none
      io := { sl.io with replies := sl.io.replies ++ [⟨0x01, q.tag, code :: ws⟩] } } := by
  cases sl; simp_all [SiteLink.answerCmd, SiteLink.settleAborts, LinkIo.push]

theorem SiteLink.answerBurn_alone {sl : SiteLink} {b : BurnReq} (hb : sl.burn = some b) (ha : sl.aborts = [])
    (code : Word) (ws : List Word) :
    sl.answerBurn code ws = { sl with
      burn := none
      io := { sl.io with replies := sl.io.replies ++ [⟨0x03, b.tag, code :: ws⟩] } } := by
  cases sl; simp_all [SiteLink.answerBurn, SiteLink.settleAborts, LinkIo.push]

/-- A sweep of site `k` is to come while a RESET SITE of it is the outstanding supervisor request. -/
theorem State.sweepAwaited_iff {k : Site} {s : State} :
    s.sweepAwaited k = true ↔ ∃ q n b, s.sup.lane = some q ∧ q.task = .resetSite k n b := by
  unfold State.sweepAwaited
  cases h : s.sup.lane with
  | none => simp
  | some q => cases ht : q.task <;> simp [ht]

/-- A PREPARE ended ABORTED by an access of its own leaves its clearing at the port. -/
@[simp] theorem State.endAborted_true (k : Site) (i : Nat) (s : State) : s.endAborted k i true = s.endClaimed k i .aborted :=
  rfl

/-- A PREPARE ended ABORTED under a sweep to come is answered and makes no access. -/
@[simp] theorem State.endAborted_false (k : Site) (i : Nat) (s : State) :
    s.endAborted k i false = s.answerPrepare k Code.aborted.word [] := rfl

/-- A lane that its PREPARE's answer freed is left by the lookup access as it is. -/
theorem SiteLink.lookupTaken_free {sl : SiteLink} (h : sl.cmd = none) : sl.lookupTaken = sl := by
  simp [SiteLink.lookupTaken, h]

/-- A PREPARE that no ABORT found in its lookup goes on with the lane as it is. -/
theorem SiteLink.lookupTaken_unmarked {sl : SiteLink} {q : PrepReq} (hc : sl.cmd = some q) (ha : q.aborted = false) :
    sl.lookupTaken = sl := by simp [SiteLink.lookupTaken, hc, ha]

/-- A PREPARE found in its lookup by one ABORT goes on unmarked, and the ABORT that waited for it alone is DONE. -/
theorem SiteLink.lookupTaken_alone {sl : SiteLink} {q : PrepReq} {t : Byte} (hc : sl.cmd = some q) (ha : q.aborted = true)
    (hw : sl.aborts = [⟨t, true, false⟩]) :
    sl.lookupTaken = { sl with
      cmd := some { q with aborted := false }
      aborts := []
      io := { sl.io with replies := sl.io.replies ++ [⟨0x04, t, [0]⟩] } } := by
  cases sl; simp_all [SiteLink.lookupTaken, SiteLink.settleAborts, AbortWait.ready]

/-- A site with both lanes free has no work to end. -/
theorem State.endSiteWork_free {k : Site} {s : State} (hc : (s.site k).cmd = none) (hb : (s.site k).burn = none)
    (clear : Bool) : s.endSiteWork k clear = s := by
  simp [State.endSiteWork, State.endCmdLane, State.endBurnLane, hc, hb]

/-- A site's links other than `k`'s stand when the PREPARE of `k` is answered. -/
theorem State.answerPrepare_other {j k : Site} (h : j ≠ k) (c : Word) (ws : List Word) (s : State) :
    (s.answerPrepare k c ws).site j = s.site j := by simp [State.answerPrepare_eq, State.site, h]

/-- A site's links other than `k`'s stand when the BURN of `k` is answered. -/
theorem State.answerBurn_other {j k : Site} (h : j ≠ k) (c : Word) (ws : List Word) (s : State) :
    (s.answerBurn k c ws).site j = s.site j := by simp [State.answerBurn_eq, State.site, h]

end Sys2Proof.Machine
end

