-- ==== Sys2Proof/Laws/Table.lean ====
section
/-!
SUPPORT. What the die record table's accesses do (chapter 3): reading the position map after filling it, changing one
record, dealing with all of them, creating one; and that each keeps the table in agreement with itself.
-/

namespace Sys2Proof.Machine

/-! ### The position map -/

theorem mapEntry_fillEntry_same (n i : Nat) (m : List (Nat × Nat)) (h : mapEntry n m = none) :
    mapEntry n (fillEntry n i m) = some i := by
  induction m with
  | nil => simp [fillEntry, mapEntry]
  | cons e m ih =>
    obtain ⟨a, j⟩ := e
    have ha : a ≠ n := by rintro rfl; simp [mapEntry] at h
    have hm : mapEntry n m = none := by simpa [mapEntry, ha] using h
    simp only [fillEntry]
    split
    · simp [mapEntry]
    · rw [if_neg (fun e => ha e.symm)]
      simpa [mapEntry, ha] using ih hm

theorem mapEntry_fillEntry_ne (n i k : Nat) (m : List (Nat × Nat)) (hk : k ≠ n) :
    mapEntry k (fillEntry n i m) = mapEntry k m := by
  induction m with
  | nil => simp [fillEntry, mapEntry, hk.symm]
  | cons e m ih =>
    obtain ⟨a, j⟩ := e
    simp only [fillEntry]
    split
    · simp [mapEntry, hk.symm]
    · split
      · next h => subst h; simp [mapEntry, hk.symm]
      · simp only [mapEntry, List.find?_cons] at ih ⊢
        by_cases ha : a = k
        · simp [ha]
        · have hb : (a == k) = false := by simpa using ha
          simp only [hb]; exact ih

theorem mem_fillEntry {n i : Nat} {m : List (Nat × Nat)} (h : mapEntry n m = none) (e : Nat × Nat) :
    e ∈ fillEntry n i m ↔ e = (n, i) ∨ e ∈ m := by
  induction m with
  | nil => simp [fillEntry]
  | cons x m ih =>
    obtain ⟨a, j⟩ := x
    have ha : a ≠ n := by rintro rfl; simp [mapEntry] at h
    have hm : mapEntry n m = none := by simpa [mapEntry, ha] using h
    simp only [fillEntry]
    split
    · simp
    · rw [if_neg (fun e => ha e.symm)]
      simp only [List.mem_cons, ih hm]; tauto

theorem fillEntry_sorted {n i : Nat} {m : List (Nat × Nat)} (hs : mapSorted m) (h : mapEntry n m = none) :
    mapSorted (fillEntry n i m) := by
  induction m with
  | nil => simp [fillEntry, mapSorted]
  | cons x m ih =>
    obtain ⟨a, j⟩ := x
    have ha : a ≠ n := by rintro rfl; simp [mapEntry] at h
    have hm : mapEntry n m = none := by simpa [mapEntry, ha] using h
    simp only [mapSorted, List.pairwise_cons] at hs
    simp only [fillEntry]
    split
    · next hlt =>
      simp only [mapSorted, List.pairwise_cons, List.mem_cons]
      refine ⟨?_, hs⟩
      rintro e (rfl | he)
      · exact hlt
      · exact Nat.lt_trans hlt (hs.1 e he)
    · next hlt =>
      rw [if_neg (fun e => ha e.symm)]
      simp only [mapSorted, List.pairwise_cons]
      refine ⟨?_, ih hs.2 hm⟩
      intro e he
      rcases (mem_fillEntry hm e).mp he with rfl | he
      · exact Nat.lt_of_le_of_ne (Nat.not_lt.mp hlt) ha
      · exact hs.1 e he

/-! ### Counters -/

@[simp] theorem Counters.get_put (c : Counters) (st st' : RecState) (n : Nat) :
    (c.put st n).get st' = if st' = st then n else c.get st' := by
  cases st <;> cases st' <;> rfl

@[simp] theorem Counters.put_exhausted (c : Counters) (st : RecState) (n : Nat) :
    (c.put st n).exhausted = c.exhausted := by cases st <;> rfl

@[simp] theorem Counters.put_recovered (c : Counters) (st : RecState) (n : Nat) :
    (c.put st n).recovered = c.recovered := by cases st <;> rfl

@[simp] theorem Counters.put_skipped (c : Counters) (st : RecState) (n : Nat) : (c.put st n).skipped = c.skipped := by
  cases st <;> rfl

/-- The state counts after a record changed. -/
theorem Counters.change_get (c : Counters) (r r' : DieRecord) (st : RecState) :
    (c.change r r').get st =
      if r.state = r'.state then c.get st
      else if st = r'.state then c.get st + 1
      else if st = r.state then c.get st - 1 else c.get st := by
  have h : ∀ (c1 : Counters) (a b : Nat),
      ({ c1 with exhausted := a, recovered := b } : Counters).get st = c1.get st := by
    intro c1 a b; cases st <;> rfl
  simp only [Counters.change, h]
  by_cases h1 : r.state = r'.state
  · simp [h1]
  · simp only [h1, ↓reduceIte, Counters.raise, Counters.lower, Counters.get_put]
    by_cases h2 : st = r'.state
    · subst h2; simp [Ne.symm h1]
    · simp only [h2, ↓reduceIte]; split <;> simp_all

theorem Counters.change_exhausted (c : Counters) (r r' : DieRecord) :
    (c.change r r').exhausted = c.exhausted + (if r'.exhausted && !r.exhausted then 1 else 0) := by
  simp only [Counters.change]
  split <;> split <;> simp [Counters.raise, Counters.lower]

theorem Counters.change_recovered (c : Counters) (r r' : DieRecord) :
    (c.change r r').recovered = c.recovered + (if r'.recovered && !r.recovered then 1 else 0) := by
  simp only [Counters.change]
  split <;> split <;> simp [Counters.raise, Counters.lower]

/-- A change of nothing the counters count leaves them. -/
theorem Counters.change_same (c : Counters) {r r' : DieRecord} (h1 : r'.state = r.state)
    (h2 : r'.exhausted = r.exhausted) (h3 : r'.recovered = r.recovered) : c.change r r' = c := by
  simp [Counters.change, h1, h2, h3]

/-! ### One record -/

theorem Table.modify_some {d : Table} {i : Nat} {r : DieRecord} (h : d.records[i]? = some r)
    (f : DieRecord → DieRecord) :
    d.modify i f =
      { d with
        records := d.records.set i (f r)
        marks := d.marks.setIfInBounds (i / 64) true
        counts := d.counts.change r (f r) } := by
  simp [Table.modify, h]

theorem Table.modify_none {d : Table} {i : Nat} (h : d.records[i]? = none) (f : DieRecord → DieRecord) :
    d.modify i f = d := by simp [Table.modify, h]

@[simp] theorem Table.modify_posMap (d : Table) (i : Nat) (f : DieRecord → DieRecord) :
    (d.modify i f).posMap = d.posMap := by unfold Table.modify; split <;> rfl

@[simp] theorem Table.modify_length (d : Table) (i : Nat) (f : DieRecord → DieRecord) :
    (d.modify i f).records.length = d.records.length := by unfold Table.modify; split <;> simp

/-- The record at an index after an access that changes one record. -/
theorem Table.modify_records (d : Table) (i j : Nat) (f : DieRecord → DieRecord) :
    (d.modify i f).records[j]? = if j = i then d.records[j]?.map f else d.records[j]? := by
  unfold Table.modify
  split
  · next h => split
              · next e => simp [e, h]
              · rfl
  · next r h =>
    simp only [List.getElem?_set]
    by_cases e : j = i
    · subst e
      have : j < d.records.length := by
        by_contra hc; simp [List.getElem?_eq_none (Nat.not_lt.mp hc)] at h
      have hr : d.records[j] = r := by simpa [List.getElem?_eq_getElem this] using h
      simp [this, hr]
    · simp [e, Ne.symm e]

/-- An access that keeps a record's position keeps the table in agreement with itself, if it takes no exhausted mark and
no recovered flag away. -/
theorem Table.modify_consistent {d : Table} (hd : d.Consistent) (i : Nat) (f : DieRecord → DieRecord)
    (hpos : ∀ r, (f r).pos = r.pos) (hex : ∀ r, r.exhausted = true → (f r).exhausted = true)
    (hrec : ∀ r, r.recovered = true → (f r).recovered = true) : (d.modify i f).Consistent := by
  rcases h : d.records[i]? with _ | r
  · rwa [Table.modify_none h]
  have hi : i < d.records.length := by
    by_contra hc; simp [List.getElem?_eq_none (Nat.not_lt.mp hc)] at h
  have hr : d.records[i] = r := by simpa [List.getElem?_eq_getElem hi] using h
  have hcount : ∀ p : DieRecord → Bool,
      (d.records.set i (f r)).countP p + (if p r then 1 else 0) = d.records.countP p + (if p (f r) then 1 else 0) := by
    intro p
    rw [List.countP_set (h := hi)]
    simp only [hr]
    have hpos : p r = true → 0 < d.records.countP p := fun hp =>
      List.countP_pos_iff.mpr ⟨r, hr ▸ List.getElem_mem hi, hp⟩
    split <;> split <;> simp_all
  have hstate : ∀ st, (d.modify i f).counts.get st = (d.modify i f).countOf st := by
    intro st
    have h1 := hcount fun x => x.state == st
    have h2 := hd.states st
    simp only [Table.countOf] at h2 ⊢
    rw [Table.modify_some h]
    simp only [Counters.change_get]
    by_cases e : r.state = (f r).state
    · simp only [e, ↓reduceIte] at h1 ⊢; omega
    · simp only [e, ↓reduceIte]
      by_cases e1 : st = (f r).state
      · have e2 : ¬ r.state = st := by rw [e1]; exact e
        simp only [e1, ↓reduceIte] at h1 h2 ⊢
        simp [e] at h1; omega
      · simp only [e1, ↓reduceIte]
        have e3 : ¬ (f r).state = st := fun x => e1 x.symm
        by_cases e2 : st = r.state
        · subst e2; simp [e3] at h1 ⊢; omega
        · have e4 : ¬ r.state = st := fun x => e2 x.symm
          simp [e3, e4, e2] at h1 ⊢; omega
  refine ⟨hstate, ?_, ?_, ?_, ?_, ?_, ?_⟩
  · have h1 := hcount fun x => x.exhausted
    have h2 := hd.exhausted
    have h3 := hex r
    rw [Table.modify_some h]
    simp only [Counters.change_exhausted]
    cases h4 : r.exhausted <;> cases h5 : (f r).exhausted <;> simp_all
  · have h1 := hcount fun x => x.recovered
    have h2 := hd.recovered
    have h3 := hrec r
    rw [Table.modify_some h]
    simp only [Counters.change_recovered]
    cases h4 : r.recovered <;> cases h5 : (f r).recovered <;> simp_all
  · simpa using hd.sorted
  · intro e he
    rw [Table.modify_posMap] at he
    obtain ⟨x, hx, hp⟩ := hd.mapped e he
    rw [Table.modify_records]
    split
    · exact ⟨f x, by simp [hx], by rw [hpos, hp]⟩
    · exact ⟨x, hx, hp⟩
  · intro j x hx
    rw [Table.modify_records] at hx
    rw [Table.modify_posMap]
    split at hx
    · obtain ⟨y, hy, rfl⟩ := Option.map_eq_some_iff.mp hx
      rw [hpos]; exact hd.covered j y hy
    · exact hd.covered j x hx
  · simpa using hd.capacity

/-! ### Creation -/

theorem Table.create_lookup {d : Table} {p : Pos} (h : d.lookup p = none) (k : Site) (stamp : BitVec 32) :
    (d.create p k stamp).lookup p = some d.records.length := mapEntry_fillEntry_same _ _ _ h

/-- The creation of a record for a position without one, in a table that is not full, keeps the table in agreement with
itself. -/
theorem Table.create_consistent {d : Table} (hd : d.Consistent) {p : Pos} (h : d.lookup p = none)
    (hc : d.records.length < Table.capacity) (k : Site) (stamp : BitVec 32) : (d.create p k stamp).Consistent := by
  have h' : mapEntry (posEntry p) d.posMap = none := h
  refine ⟨?_, ?_, ?_, fillEntry_sorted hd.sorted h', ?_, ?_, ?_⟩
  · intro st
    simp only [Table.create, Counters.raise, Counters.get_put, Table.countOf, List.countP_append]
    have := hd.states st
    have h2 := hd.states .reserved
    simp only [Table.countOf] at this h2
    by_cases e : st = .reserved
    · subst e; simp [DieRecord.created, h2]
    · simp [e, DieRecord.created, this, Ne.symm e]
  · simp [Table.create, Counters.raise, DieRecord.created, hd.exhausted]
  · simp [Table.create, Counters.raise, DieRecord.created, hd.recovered]
  · intro e he
    rcases (mem_fillEntry h' e).mp he with rfl | he
    · exact ⟨DieRecord.created p { site := k, slot := none } stamp, by simp [Table.create], rfl⟩
    · obtain ⟨r, hr, hp⟩ := hd.mapped e he
      refine ⟨r, ?_, hp⟩
      have : e.2 < d.records.length := by
        by_contra hn; simp [List.getElem?_eq_none (Nat.not_lt.mp hn)] at hr
      simp [Table.create, List.getElem?_append_left this, hr]
  · intro i r hr
    simp only [Table.create] at hr ⊢
    by_cases hi : i < d.records.length
    · rw [List.getElem?_append_left hi] at hr
      exact (mem_fillEntry h' _).mpr (.inr (hd.covered i r hr))
    · rw [List.getElem?_append_right (Nat.not_lt.mp hi)] at hr
      have : i - d.records.length = 0 := by
        by_contra hn
        rw [List.getElem?_eq_none (by simp; omega)] at hr; cases hr
      have hi' : i = d.records.length := by omega
      subst hi'
      simp at hr
      subst hr
      exact (mem_fillEntry h' _).mpr (.inl rfl)
  · simp only [Table.create, List.length_append, List.length_singleton]; omega

/-! ### Every record -/

theorem Table.convertAt_eq (f : DieRecord → DieRecord) (d : Table) (i : Nat) :
    Table.convertAt f d i = d ∨ Table.convertAt f d i = d.modify i f := by
  unfold Table.convertAt
  split
  · exact .inl rfl
  · split
    · exact .inl rfl
    · exact .inr rfl

theorem Table.convertAt_records (f : DieRecord → DieRecord) (d : Table) (i j : Nat) :
    (Table.convertAt f d i).records[j]? = if j = i then d.records[j]?.map f else d.records[j]? := by
  unfold Table.convertAt
  split
  · next h => split
              · next e => simp [e, h]
              · rfl
  · next r h =>
    split
    · next e => split
                · next e2 => subst e2; simp [h, e]
                · rfl
    · exact Table.modify_records d i j f

theorem Table.foldl_convertAt_records (f : DieRecord → DieRecord) (l : List Nat) (hl : l.Nodup) (d : Table)
    (j : Nat) :
    (l.foldl (Table.convertAt f) d).records[j]? = if j ∈ l then d.records[j]?.map f else d.records[j]? := by
  induction l generalizing d with
  | nil => simp
  | cons i l ih =>
    rw [List.nodup_cons] at hl
    rw [List.foldl_cons, ih hl.2, Table.convertAt_records]
    by_cases e : j = i
    · subst e; simp [hl.1]
    · simp [e]

/-- Every record is dealt with. -/
theorem Table.convert_records (f : DieRecord → DieRecord) (d : Table) (j : Nat) :
    (d.convert f).records[j]? = d.records[j]?.map f := by
  rw [Table.convert, Table.foldl_convertAt_records _ _ List.nodup_range]
  split
  · rfl
  · next h =>
    rw [List.mem_range] at h
    rw [List.getElem?_eq_none (Nat.not_lt.mp h)]; rfl

theorem Table.convertAt_posMap (f : DieRecord → DieRecord) (d : Table) (i : Nat) :
    (Table.convertAt f d i).posMap = d.posMap := by
  rcases Table.convertAt_eq f d i with h | h <;> simp [h]

@[simp] theorem Table.convert_posMap (f : DieRecord → DieRecord) (d : Table) : (d.convert f).posMap = d.posMap := by
  unfold Table.convert
  generalize List.range d.records.length = l
  induction l generalizing d with
  | nil => rfl
  | cons i l ih => rw [List.foldl_cons, ih, Table.convertAt_posMap]

@[simp] theorem Table.convert_length (f : DieRecord → DieRecord) (d : Table) :
    (d.convert f).records.length = d.records.length := by
  have h : ∀ i (d : Table), (Table.convertAt f d i).records.length = d.records.length := by
    intro i d; rcases Table.convertAt_eq f d i with h | h <;> simp [h]
  unfold Table.convert
  generalize List.range d.records.length = l
  induction l generalizing d with
  | nil => rfl
  | cons i l ih => rw [List.foldl_cons, ih, h]

/-- A sweep that keeps every position, exhausted mark and recovered flag keeps the table in agreement with itself. -/
theorem Table.convert_consistent {d : Table} (hd : d.Consistent) (f : DieRecord → DieRecord)
    (hpos : ∀ r, (f r).pos = r.pos) (hex : ∀ r, r.exhausted = true → (f r).exhausted = true)
    (hrec : ∀ r, r.recovered = true → (f r).recovered = true) : (d.convert f).Consistent := by
  unfold Table.convert
  generalize List.range d.records.length = l
  induction l generalizing d with
  | nil => exact hd
  | cons i l ih =>
    rw [List.foldl_cons]
    apply ih
    rcases Table.convertAt_eq f d i with h | h
    · rwa [h]
    · rw [h]; exact Table.modify_consistent hd i f hpos hex hrec

theorem Table.emptied_consistent : Table.emptied.Consistent := by
  refine ⟨fun st => ?_, rfl, rfl, List.Pairwise.nil, ?_, ?_, Nat.zero_le _⟩
  · cases st <;> rfl
  · intro e he; cases he
  · intro i r hr; simp [Table.emptied] at hr

end Sys2Proof.Machine
end

