-- ==== Sys2Proof/Laws/TableFrames.lean ====
section
/-!
SUPPORT. The shared operations that make no table access leave the die record table as it is (R44).
-/

namespace Sys2Proof.Machine

@[simp] theorem State.report_drt (n : Nat) (k : Option Site) (p : Option Pos) (x : Byte) (s : State) :
    (s.report n k p x).drt = s.drt := rfl

@[simp] theorem State.place_drt (a : Access) (k : Site) (s : State) : (s.place a k).drt = s.drt := rfl

@[simp] theorem State.modChan_drt (k : Site) (f : Channel → Channel) (s : State) : (s.modChan k f).drt = s.drt := rfl

@[simp] theorem State.modSite_drt (k : Site) (f : SiteLink → SiteLink) (s : State) :
    (s.modSite k f).drt = s.drt := rfl

@[simp] theorem State.modFlags_drt (f : AlertFlags → AlertFlags) (s : State) : (s.modFlags f).drt = s.drt := rfl

@[simp] theorem State.duWithdraw_drt (p : DEntry → Bool) (s : State) : (s.duWithdraw p).drt = s.drt := rfl

@[simp] theorem State.supAnswer_drt (c : Word) (ws : List Word) (s : State) : (s.supAnswer c ws).drt = s.drt := rfl

@[simp] theorem State.supTask_drt (t : SupTask) (s : State) : (s.supTask t).drt = s.drt := rfl

@[simp] theorem State.answerPrepare_drt (k : Site) (c : Word) (ws : List Word) (s : State) :
    (s.answerPrepare k c ws).drt = s.drt := rfl

@[simp] theorem State.answerBurn_drt (k : Site) (c : Word) (ws : List Word) (s : State) :
    (s.answerBurn k c ws).drt = s.drt := rfl

@[simp] theorem State.withIo_drt (l : Link) (x : LinkIo) (s : State) :
    (s.withIo l x).drt = s.drt := by cases l <;> rfl

@[simp] theorem State.reply_drt (l : Link) (m : Message) (s : State) :
    (s.reply l m).drt = s.drt := by simp [State.reply]

@[simp] theorem State.siteReply_drt (k : Site) (a b : Byte) (c : Code) (ws : List Word) (s : State) :
    (s.siteReply k a b c ws).drt = s.drt := by simp [State.siteReply]

@[simp] theorem State.supReply_drt (a b : Byte) (c : Code) (ws : List Word) (s : State) :
    (s.supReply a b c ws).drt = s.drt := by simp [State.supReply]

@[simp] theorem State.modRecord_drt (i : Nat) (f : DieRecord → DieRecord) (s : State) :
    (s.modRecord i f).drt = s.drt.modify i f := rfl

@[simp] theorem State.setPhase_drt (k : Site) (p : PrepPhase) (s : State) : (s.setPhase k p).drt = s.drt := rfl

@[simp] theorem State.watchHits_drt (m : WatchContent → Bool) (s : State) : (s.watchHits m).drt = s.drt := by
  unfold State.watchHits; simp only; split <;> rfl

@[simp] theorem State.jsStart_drt (s : State) : s.jsStart.drt = s.drt := by
  unfold State.jsStart; split <;> [rfl; (split <;> rfl)]

@[simp] theorem State.jsPlace_drt (e : List JEntry) (s : State) : (s.jsPlace e).drt = s.drt := by simp [State.jsPlace]

@[simp] theorem State.setExhausted_drt (s : State) : s.setExhausted.drt = s.drt := by
  unfold State.setExhausted; simp only; split <;> rfl

@[simp] theorem State.queueAdvance_drt (k : Site) (s : State) :
    (s.queueAdvance k).drt = s.drt := by simp [State.queueAdvance]

@[simp] theorem State.prefetch_drt (k : Site) (s : State) : (s.prefetch k).drt = s.drt := by
  unfold State.prefetch; split <;> [(split <;> simp); rfl]

@[simp] theorem State.takeSerial_drt (k : Site) (b : Block) (n : NextBlock) (s : State) :
    (s.takeSerial k b n).drt = s.drt := by simp [State.takeSerial]

@[simp] theorem State.draw_drt (k : Site) (s : State) : (s.draw k).1.drt = s.drt := by
  unfold State.draw; simp only; repeat' split
  all_goals simp

@[simp] theorem State.placeBlock_drt (k : Site) (b : Nat) (s : State) : (s.placeBlock k b).drt = s.drt := rfl

@[simp] theorem State.duStart_drt (s : State) : s.duStart.drt = s.drt := by
  unfold State.duStart; split <;> [rfl; (split <;> rfl)]

@[simp] theorem State.duPlace_drt (e : DEntry) (s : State) : (s.duPlace e).drt = s.drt := by simp [State.duPlace]

@[simp] theorem State.emptySlot_drt (k : Site) (l : SlotId) (s : State) :
    (s.emptySlot k l).drt = s.drt := by simp [State.emptySlot]

@[simp] theorem State.emptySlots_drt (k : Site) (s : State) : (s.emptySlots k).drt = s.drt := by
  unfold State.emptySlots; simp only; split <;> split <;> simp

@[simp] theorem State.startQualify_drt (k : Site) (l : SlotId) (s : State) : (s.startQualify k l).drt = s.drt := rfl

@[simp] theorem State.acceptBurn_drt (k : Site) (l : SlotId) (s : State) : (s.acceptBurn k l).drt = s.drt := by
  unfold State.acceptBurn; simp only; split <;> rfl

@[simp] theorem State.burnAttempt_drt (k : Site) (p : Pos) (s : State) : (s.burnAttempt k p).drt = s.drt := by
  unfold State.burnAttempt; repeat' split
  all_goals simp

@[simp] theorem State.recheckBurn_drt (k : Site) (s : State) : (s.recheckBurn k).drt = s.drt := by
  unfold State.recheckBurn; repeat' split
  all_goals simp

@[simp] theorem State.reportEnding_drt (k : Site) (e : Ending) (h : Bool) (p : Pos) (s : State) :
    (s.reportEnding k e h p).drt = s.drt := by
  rw [State.reportEnding_eq]; rfl

@[simp] theorem State.leaveBurn_drt (k : Site) (e : Ending) (h : Bool) (p : Pos) (s : State) :
    (s.leaveBurn k e h p).drt = s.drt := by
  simp [State.leaveBurn]

@[simp] theorem State.finishBurn_drt (k : Site) (e : Ending) (h : Bool) (s : State) :
    (s.finishBurn k e h).drt = s.drt := by
  unfold State.finishBurn; split <;> [rfl; (split <;> simp [State.endWritten, State.endUnwritten])]

@[simp] theorem State.interruptBurn_drt (k : Site) (e : Ending) (s : State) : (s.interruptBurn k e).drt = s.drt := by
  unfold State.interruptBurn; simp only; repeat' split
  all_goals simp [State.fixEnding]

@[simp] theorem State.warnBurn_drt (k : Site) (s : State) : (s.warnBurn k).drt = s.drt := by
  unfold State.warnBurn; split <;> simp

@[simp] theorem State.answerEnded_drt (k : Site) (w : EndWrite) (e : Ending) (n : Serial) (r r' : DieRecord) (s : State) :
    (s.answerEnded k w e n r r').drt = s.drt := rfl

@[simp] theorem State.endClaimed_drt (k : Site) (i : Nat) (c : Code) (s : State) :
    (s.endClaimed k i c).drt = s.drt := rfl

@[simp] theorem State.endAborted_drt (k : Site) (i : Nat) (c : Bool) (s : State) :
    (s.endAborted k i c).drt = s.drt := by unfold State.endAborted; split <;> rfl

@[simp] theorem State.lookupTaken_drt (k : Site) (p : Pos) (s : State) :
    (s.lookupTaken k p).drt = (s.lookupAccess k p).drt := rfl

@[simp] theorem State.drawStep_drt (k : Site) (i : Nat) (s : State) : (s.drawStep k i).drt = s.drt := by
  have h := State.draw_drt k s
  unfold State.drawStep; repeat' split
  all_goals simp_all

@[simp] theorem State.toSlot_drt (k : Site) (i : Nat) (s : State) : (s.toSlot k i).drt = s.drt := rfl

@[simp] theorem State.completeAdvance_drt (k : Site) (b : Nat) (s : State) : (s.completeAdvance k b).drt = s.drt := by
  unfold State.completeAdvance; simp only; repeat' split
  all_goals simp

@[simp] theorem State.dropWaiting_drt (k : Site) (l : SlotId) (s : State) : (s.dropWaiting k l).drt = s.drt := by
  unfold State.dropWaiting; split <;> rfl

@[simp] theorem State.endCmdLane_drt (k : Site) (c : Bool) (s : State) : (s.endCmdLane k c).drt = s.drt := by
  unfold State.endCmdLane; repeat' split
  all_goals simp

@[simp] theorem State.endBurnLane_drt (k : Site) (s : State) : (s.endBurnLane k).drt = s.drt := by
  unfold State.endBurnLane; repeat' split
  all_goals simp

@[simp] theorem State.endSiteWork_drt (k : Site) (c : Bool) (s : State) :
    (s.endSiteWork k c).drt = s.drt := by simp [State.endSiteWork]

@[simp] theorem State.takeAbort_drt (k : Site) (t : Byte) (s : State) :
    (s.takeAbort k t).drt = s.drt := by simp [State.takeAbort]

@[simp] theorem State.loadCheck_drt (s : State) : s.loadCheck.drt = s.drt := by
  unfold State.loadCheck; repeat' split
  all_goals rfl

@[simp] theorem State.loadRan_drt (k : Site) (r : CalResult) (s : State) :
    (s.loadRan k r).drt = s.drt := by simp [State.loadRan]

@[simp] theorem State.completeWafer_drt (v : Word) (s : State) :
    (s.completeWafer v).drt = s.drt := by simp [State.completeWafer]

@[simp] theorem State.deliverFingerprint_drt (v : Key) (s : State) : (s.deliverFingerprint v).drt = s.drt := by
  unfold State.deliverFingerprint; simp only; repeat' split
  all_goals simp [State.setLot]

@[simp] theorem State.handOn_drt (e : JEntry) (v : Word) (s : State) : (s.handOn e v).drt = s.drt := by
  unfold State.handOn; repeat' split
  all_goals simp [State.completeOpen, State.completeClose, State.setLot]

@[simp] theorem State.stopDraw_drt (k : Site) (s : State) : (s.stopDraw k).drt = s.drt := by
  unfold State.stopDraw; repeat' split
  all_goals simp

@[simp] theorem State.stopBurn_drt (k : Site) (s : State) : (s.stopBurn k).drt = s.drt := by
  unfold State.stopBurn; simp only; repeat' split
  all_goals simp

@[simp] theorem State.stopLot_drt (s : State) : s.stopLot.drt = s.drt := by
  unfold State.stopLot; repeat' split
  all_goals simp

@[simp] theorem State.partStop_drt (s : State) : s.partStop.drt = s.drt := by
  simp [State.partStop, allSites]

@[simp] theorem State.cutWrite_drt (s : State) : s.cutWrite.drt = s.drt := by
  unfold State.cutWrite; split <;> rfl
end Sys2Proof.Machine
end

