-- ==== Sys2Proof/Laws/Words.lean ====
section
/-!
SUPPORT. Words, bytes, positions and two-word numbers put together and taken apart.
-/

namespace Sys2Proof

@[simp] theorem hiByte_joinBytes (h l : Byte) : hiByte (joinBytes h l) = h := by
  apply BitVec.eq_of_getLsbD_eq; intro i hi
  simp only [hiByte, joinBytes, BitVec.getLsbD_extractLsb', BitVec.getLsbD_append]
  simp [hi]

@[simp] theorem loByte_joinBytes (h l : Byte) : loByte (joinBytes h l) = l := by
  apply BitVec.eq_of_getLsbD_eq; intro i hi
  simp only [loByte, joinBytes, BitVec.getLsbD_extractLsb', BitVec.getLsbD_append]
  simp [hi]

@[simp] theorem joinBytes_hi_lo (w : Word) : joinBytes (hiByte w) (loByte w) = w := by
  apply BitVec.eq_of_getLsbD_eq; intro i hi
  simp only [hiByte, loByte, joinBytes, BitVec.getLsbD_append, BitVec.getLsbD_extractLsb']
  by_cases h : i < 8
  · simp [h]
  · have : i - 8 < 8 := by omega
    simp [h, this, Nat.add_sub_cancel' (Nat.not_lt.mp h)]

@[simp] theorem hiWord_joinWords (h l : Word) : hiWord (joinWords h l) = h := by
  apply BitVec.eq_of_getLsbD_eq; intro i hi
  simp only [hiWord, joinWords, BitVec.getLsbD_extractLsb', BitVec.getLsbD_append]
  simp [hi]

@[simp] theorem loWord_joinWords (h l : Word) : loWord (joinWords h l) = l := by
  apply BitVec.eq_of_getLsbD_eq; intro i hi
  simp only [loWord, joinWords, BitVec.getLsbD_extractLsb', BitVec.getLsbD_append]
  simp [hi]

@[simp] theorem joinWords_hi_lo (x : BitVec 32) : joinWords (hiWord x) (loWord x) = x := by
  apply BitVec.eq_of_getLsbD_eq; intro i hi
  simp only [hiWord, loWord, joinWords, BitVec.getLsbD_append, BitVec.getLsbD_extractLsb']
  by_cases h : i < 16
  · simp [h]
  · have : i - 16 < 16 := by omega
    simp [h, this, Nat.add_sub_cancel' (Nat.not_lt.mp h)]

@[simp] theorem wordPos_posWord (p : Pos) : wordPos (posWord p) = p := by
  simp [wordPos, posWord]

@[simp] theorem posWord_wordPos (w : Word) : posWord (wordPos w) = w := by
  simp [wordPos, posWord]

theorem wordOf_toNat {n : Nat} (h : n < 65536) : (wordOf n).toNat = n := by
  simp [wordOf, Nat.mod_eq_of_lt h]

namespace Machine

/-- A site, channel or entry number read from its word. -/
theorem siteOf_val (k : Site) : siteOf (wordOf k.val) = some k := by fin_cases k <;> rfl

/-- A number above 3 names no site, channel or entry. -/
theorem siteOf_big {n : Word} (h : 4 ≤ n.toNat) : siteOf n = none := by
  simp [siteOf, Nat.not_lt.mpr h]

end Machine
end Sys2Proof
end

