-- ==== Sys2Proof/Tests/Slice0.lean ====
section
/-!
SUPPORT. Tests of the model against the manual's worked examples, and one witness for every statement that has
hypotheses: a concrete state and operands that meet them together, at the ends of their ranges.
-/

open Sys2Proof Sys2Proof.Machine

set_option Elab.async false

namespace Sys2Proof.Tests

/-! ### Well-formedness: an ill-formed command for each check -/

/-- A message of one word has no length word. -/
theorem test_wf_refuses_short_message : (Instr.frameError .supervisor [0x0500]).wellFormed = false := by decide

/-- A body length of 1025 is above the largest. -/
theorem test_wf_refuses_long_body :
    (Instr.frameError (.site 3) (0x0100 :: 1025 :: List.replicate 1026 0)).wellFormed = false := by decide +kernel

/-- A message that lacks its trailer. -/
theorem test_wf_refuses_missing_trailer : (Instr.frameError (.site 0) [0x0140, 1, 0x2552]).wellFormed = false := by decide

theorem test_wf_takes_whole_message :
    (Instr.frameError (.site 0) [0x0140, 1, 0x2552, 0xD96C]).wellFormed = true := by decide

/-! ### Words on the links -/

/-- The PREPARE of the example in section 9.6: trailer 0xD96C. -/
theorem test_prepare_words : ((SiteReq.prepare ⟨37, 82⟩).message 0x40).words = [0x0140, 0x0001, 0x2552, 0xD96C] := by
  decide

theorem test_prepare_decodes :
    checkFrame (.site 0) [0x0140, 0x0001, 0x2552, 0xD96C] = .good ⟨0x01, 0x40, [0x2552]⟩ ∧
    decodeSite ⟨0x01, 0x40, [0x2552]⟩ = some (.prepare ⟨37, 82⟩) := by decide

/-- STATUS, tag 0x17, written out by hand: 0xFFFF − 0x0517. -/
theorem test_status_decodes : checkFrame (.site 2) [0x0517, 0x0000, 0xFAE8] = .good ⟨0x05, 0x17, []⟩ := by decide

/-- READ RECORDS, tag 1, index 8191, count 64: 0x2E01 + 2 + 0x1FFF + 0x40 = 0x4E42. -/
theorem test_read_records_decodes :
    checkFrame .supervisor [0x2E01, 0x0002, 0x1FFF, 0x0040, 0xB1BD] = .good ⟨0x2E, 0x01, [0x1FFF, 0x0040]⟩ ∧
    decodeSup ⟨0x2E, 0x01, [0x1FFF, 0x0040]⟩ = some (.readRecords 8191 64) := by decide

/-- A message of zeros is never valid (R74); the echo is kind 0. -/
theorem test_zero_message_is_bad : checkFrame (.site 1) [0, 0, 0] = .bad 0 0 := by decide

/-! ### Arithmetic, against the manual's tables -/

/-- The worked image of section 4.4. -/
def workedKey : Key :=
  keyOfWords [0xF3A1, 0x0C5E, 0x9B72, 0x648D, 0xE019, 0x1FE6, 0x7733, 0x88CC, 0x4D2B, 0xB2D4, 0x3C69, 0xC396, 0xA50F,
    0x5AF0, 0x0F1E, 0xF0E1]

/-- The worked image of section 4.4. -/
def workedImage : Image := assembleImage 76352 0x5C13 ⟨37, 82⟩ 0x8103 workedKey

/-- Its first words and check word (section 4.4). -/
theorem test_worked_image : (imageWords workedImage).take 5 = [0x0001, 0x2A40, 0x5C13, 0x2552, 0x8103] ∧
    imageWord workedImage 5 = 0xF3A1 ∧ imageWord workedImage 20 = 0xF0E1 ∧ imageWord workedImage 21 = 0xD355 := by
  decide +kernel

/-- 159 one-bits, the first on fuse 15; fuse 80 is the 23rd (sections 4.4 and 12). -/
theorem test_worked_fuses : ((List.range 352).filter (fuse workedImage)).length = 159 ∧
    firstFuse workedImage = some 15 ∧ ((List.range 81).filter (fuse workedImage)).length = 23 ∧
    fuse workedImage 80 = true := by decide +kernel

/-- The read of the PARTIAL row of section 4.6: words 0 to 4 alone. -/
def cutImage : Image := (workedImage >>> 272) <<< 272

/-- The classes of section 4.6. -/
theorem test_classes : classify 0 false workedImage = .blank ∧ classify 0 true workedImage = .otherIdentity ∧
    classify workedImage true workedImage = .complete ∧ classify cutImage false workedImage = .partialImage ∧
    classify cutImage true workedImage = .otherIdentity ∧
    classify (workedImage ||| fuseBit 63) false workedImage = .conflict ∧
    firstFuse (remainingSet .partialImage cutImage workedImage) = some 80 := by decide +kernel

/-- The rows of section 7.3. -/
theorem test_calibration_rows :
    calAverage [511, 512, 512, 512] = 512 ∧ calDeviation [507, 509, 508, 510] = 3 ∧
    calDeviation [520, 519, 520, 520] = -8 ∧ calOffset (-8) 0 = -7 ∧ calOffset 48 0 = 7 ∧
    calResultOf 48 = .limited ∧ calDeviation [560, 561, 561, 562] = -49 ∧ calResultOf (-49) = .failed := by decide

/-- The rows of section 7.6. -/
theorem test_clamping_rows :
    (clampProfile ⟨40, 30, 12, 6, 700, 720, 20, 50⟩).fields = [40, 40, 12, 6, 700, 732, 20, 50] ∧
    (clampProfile ⟨200, 100, 12, 6, 600, 700, 20, 50⟩).fields = [128, 128, 12, 6, 600, 700, 20, 50] ∧
    (clampProfile ⟨16, 100, 20, 0, 980, 900, 0, 300⟩).fields = [16, 100, 16, 1, 960, 992, 1, 200] := by decide

/-- The widths of the default profile: 16, 24, 36, 54, 81, 100. -/
theorem test_pulse_widths :
    (List.range 5).map (fun n => (nextWidth defaultProfile)^[n + 1] 16) = [24, 36, 54, 81, 100] := by decide

/-! ### States for one step -/

/-- The state an outcome answers, or the part as delivered. -/
def out : Host.Outcome State Fault Refusal → State
  | .next s => s
  | .fault _ | .refused _ => State.reset

/-- The corner die of the largest grid. -/
def corner : Pos := ⟨127, 127⟩

/-- An OPEN lot of first serial 100001 and count 40 with an ACTIVE wafer 7 of the largest grid, all channels IDLE. -/
def base : State :=
  { State.reset with
    lc := { State.reset.lc with
      lotState := .isOpen
      secret := some 1
      header := { lotTag := 0x5C13, first := 100001, count := 40, options := 0x8103, fp1 := 0, fp2 := 0 }
      lastWafer := 7
      wafer := .active
      waferNumber := 7
      cols := 128
      rows := 128 }
    chans := Four.all { Channel.reset with state := .idle, calResult := some .calibrated } }

/-- What a slot holds of the corner's record. -/
def cornerTaking : Taking := ⟨0, corner, 76352⟩

/-- A record of the corner. -/
def cornerRecord (st : RecState) (h : Option Holder) (n : Option Serial) : DieRecord :=
  { pos := corner, serial := n, state := st, attempts := 1, exhausted := false, lastSite := some 3, holder := h,
    pulses := 0, bits := 0, lastOutcome := none, recovered := false, stamp := 0 }

/-- The record is the only one of the table. -/
def withRecord (r : DieRecord) (s : State) : State :=
  s.withDrt { records := [r], posMap := [(posEntry r.pos, 0)], marks := Vector.replicate 128 false,
              counts := Counters.zero.raise r.state }

theorem withRecord_lookup (r : DieRecord) (s : State) : (withRecord r s).drt.lookup r.pos = some 0 := by
  simp [withRecord, State.withDrt, Table.lookup, mapEntry]

/-- Site 3 holds the corner's RESERVED record, in slot A or with no slot yet. -/
def held (l : Option SlotId) (s : State) : State :=
  withRecord (cornerRecord .reserved (some { site := 3, slot := l }) (some 76352)) s

/-- Slot 3A in a state. -/
def slotIn (st : SlotState) (i : Option Image) (s : State) : State :=
  s.modChan 3 fun c => { c with
    slotA := { state := st, taking := some cornerTaking, image := i, discardPending := false } }

/-- Channel 3 with a PREPARE of the corner in a phase. -/
def preparing (ph : PrepPhase) (s : State) : State :=
  s.modSite 3 fun sl => { sl with cmd := some ⟨0x40, corner, ph, false⟩ }

/-- Channel 3 with a BURN of the corner on its lane. -/
def burnLane (s : State) : State := s.modSite 3 fun sl => { sl with burn := some ⟨0x41, corner, false⟩ }

/-- One access of site 3 waits at the port. -/
def waits (a : Access) (s : State) : State := s.withPort [{ access := a, site := 3, moment := 0 }]

/-- A burn of the worked image is at work on channel 3, in a state, with the contact closed. -/
def burning (st : ChanState) : State :=
  ((burnLane (slotIn .burning (some workedImage)
    (withRecord (cornerRecord .burning (some { site := 3, slot := some .a }) (some 76352)) base)))).modChan 3
    fun c => { c with
      state := st
      burning := some .a
      contact := true
      snapshot := some { profile := defaultProfile, gen := 0 }
      curWidth := 16 }

/-- The burn of `burning` pulses a fuse. -/
def pulsing (st : ChanState) (f : Fuse) (m : Bool) : State :=
  (burning st).modChan 3 fun c => { c with curFuse := some f, measuring := m, remaining := workedImage }

/-- An outstanding supervisor request. -/
def asked (kind : Byte) (t : SupTask) (s : State) : State := s.withSup { s.sup with lane := some ⟨kind, 9, t⟩ }

/-- An interruption has fixed the ending of the burn on channel 3. -/
def fixing (e : Ending) (s : State) : State := s.modChan 3 fun c => { c with ending := some e }

/-- A derivation of an entry is in progress. -/
def derives (e : DEntry) (s : State) : State :=
  s.withDu { s.du with current := some { entry := e, secret := 1, discard := false } }

/-- A journal write is in progress. -/
def writing (e : JEntry) (v : Word) (ph : JPhase) (s : State) : State :=
  s.withJs { s.js with write := some { entry := e, value := v, second := false, phase := ph, elapsed := 0 } }

/-! ### One command each -/

/-- Site 3's first PREPARE of a wafer takes the command lane (R46). -/
theorem test_prepare : ((out (exec (.prepare 3 0x40 corner) base)).site 3).cmd = some ⟨0x40, corner, .lookup, false⟩ := by
  decide

/-- One column past the grid (R45). -/
theorem test_prepare_out_of_grid : ((out (exec (.prepare 3 0x40 ⟨128, 127⟩) base)).site 3).io.replies =
    [⟨0x01, 0x40, [48]⟩] := by decide

/-- With no block, the lookup's draw waits for an advance (R24, R25). -/
theorem test_prepare_lookup :
    ((out (exec (.prepareLookup 3) (waits .lookup (preparing .lookup base)))).site 3).cmd.map PrepReq.phase =
      some (.waitBlock 0) ∧
    ((out (exec (.prepareLookup 3) (waits .lookup (preparing .lookup base)))).sa.blocks.get 3).next = .pending := by
  decide +kernel

theorem test_serial_binding :
    ((out (exec (.serialBinding 3) (waits .binding (preparing (.binding 0 100001) (withRecord
      (cornerRecord .reserved (some ⟨3, none⟩) none) base))))).recordAt 0).bind DieRecord.serial = some 100001 := by
  decide +kernel

/-- Slot A is taken first (R81). -/
theorem test_slot_access :
    ((out (exec (.slotAccess 3) (waits .slotTaking (preparing (.slotTaking 0) (held none base))))).chan 3).slotA.state =
      .deriving := by decide +kernel

theorem test_claim_clearing :
    ((out (exec (.claimClearing 3) (waits (.clearing 0) (held none base)))).recordAt 0).map DieRecord.holder =
      some none := by decide +kernel

theorem test_release :
    ((out (exec (.release 3 0x42 corner) (slotIn .staged (some workedImage) (held (some .a) base)))).chan 3).slotA.state =
      .empty := by decide +kernel

/-- The staged die is qualified (R106). -/
theorem test_burn :
    ((out (exec (.burn 3 0x41 corner) (slotIn .staged (some workedImage) (held (some .a) base)))).chan 3).state =
      .qualifying := by decide +kernel

/-- NO SLOT with no staged record at the position (R102). -/
theorem test_burn_no_slot : ((out (exec (.burn 3 0x41 corner) base)).site 3).io.replies = [⟨0x03, 0x41, [49]⟩] := by
  decide +kernel

/-- An ABORT with nothing to end is answered at once; a PREPARE in its slot access is nothing to end (R121, R160). -/
theorem test_abort_with_nothing : ∀ s ∈ [base, preparing (.slotTaking 0) base],
    ((out (exec (.abort 3 0x44) s)).site 3).io.replies = [⟨0x04, 0x44, [0]⟩] := by
  decide

theorem test_status_in_stop : ((out (exec (.status 3 0x45) (base.withFu { base.fu with partStopped := true }))).site
    3).io.replies.map (fun m => m.body.take 2) = [[0, 1]] := by decide +kernel

/-- The broken PREPARE of one flipped bit: echo kind 0 and tag 0x40, fault 11 (R156). -/
theorem test_frame_error :
    ((out (exec (.frameError (.site 3) [0x0140, 1, 0x2553, 0xD96C]) base)).site 3).io.replies = [⟨0, 0x40, [17]⟩] ∧
    (out (exec (.frameError (.site 3) [0x0140, 1, 0x2553, 0xD96C]) base)).fu.last.map FaultRecord.code = some 11 := by
  decide +kernel

theorem test_gap_timeout :
    ((out (exec (.gapTimeout .supervisor) (base.withIo .supervisor ⟨.collect, [0x20, 0x07, 0], 5, []⟩))).io
      .supervisor) = ⟨.await, [], 0, [⟨0, 0x07, [17]⟩]⟩ := by decide

theorem test_reply_sent :
    ((out (exec (.replySent (.site 3)) (base.withIo (.site 3) ⟨.await, [], 0, [⟨4, 1, [0]⟩]⟩))).io (.site 3)).replies =
      [] := by decide

/-- The last byte of the example PREPARE runs it (R155). -/
theorem test_byte_received :
    (out (exec (.byteReceived (.site 3) 0x6C) (base.withIo (.site 3)
      ⟨.collect, [0x01, 0x40, 0x00, 0x01, 0x25, 0x52, 0xD9], 0, []⟩))).site 3 =
    { base.site 3 with cmd := some ⟨0x40, ⟨37, 82⟩, .lookup, false⟩ } := by decide +kernel

theorem test_open_lot : (out (exec (.openLot 1 0x5C13 100001 40 0x8103 1) State.reset)).lc.lotState = .opening := by
  decide +kernel

/-- Key class of format revision 2 is no valid options word (R167). -/
theorem test_open_lot_bad : (out (exec (.openLot 1 0x5C13 100001 40 0x8203 1) State.reset)).sup.io.replies =
    [⟨0x20, 1, [35]⟩] := by decide +kernel

theorem test_resume_lot : (out (exec (.resumeLot 1 0x5C13 1)
    (base.withLc { base.lc with lotState := .suspended, secret := none }))).lc.lotState = .resuming := by decide +kernel

theorem test_close_lot_refused : (out (exec (.closeLot 1) base)).sup.io.replies = [⟨0x22, 1, [41]⟩] := by decide +kernel

/-- The reload of wafer 7 begins with an emptied table (R14). -/
theorem test_load_wafer :
    (out (exec (.loadWafer 1 7 128 128) (held none (base.withLc { base.lc with wafer := .closed })))).drt.records = [] ∧
    (out (exec (.loadWafer 1 7 128 128) (base.withLc { base.lc with wafer := .closed }))).lc.load.map LoadCtx.reload =
      some true := by decide +kernel

/-- An unburned record becomes VOID (R17). -/
theorem test_close_wafer : ((out (exec (.closeWafer 1) (held none base))).recordAt 0).map DieRecord.state =
    some .void := by decide +kernel

/-- The first row of section 7.6, clamped in Wmax and TP: bits 1 and 5. -/
theorem test_set_profile : (out (exec (.setProfile 9 ⟨40, 30, 12, 6, 700, 720, 20, 50⟩) base)).sup.io.replies =
    [⟨0x25, 9, [2, 0x22, 40, 40, 12, 6, 700, 732, 20, 50, 1]⟩] := by decide +kernel

theorem test_calibrate : ((out (exec (.calibrate 9 3) base)).chan 3).state = .calibrating := by decide +kernel

theorem test_disable_site : ((out (exec (.disableSite 9 3) base)).site 3).enabled = false := by decide +kernel

/-- A reset of site 3 with nothing to wait for still sweeps by its own access (R65, R173). -/
theorem test_reset_site_sweep :
    ((out (exec (.resetSiteSweep 3) (out (exec (.resetSite 9 3) (slotIn .staged (some workedImage)
      (held (some .a) base)))))).recordAt 0).map DieRecord.holder = some none := by decide +kernel

/-- Column 128 is no POSITION value (R174). -/
theorem test_set_watch :
    (out (exec (.setWatch 9 3 1 1 0x7F7F) base)).wt.get 3 = ⟨.position corner, true, 0⟩ ∧
    (out (exec (.setWatch 9 3 1 1 0x807F) base)).sup.io.replies = [⟨0x2B, 9, [43]⟩] := by decide +kernel

/-- The released PREPARE's lookup is made, and its draw waits for an advance (R88, R24). -/
theorem test_release_hold :
    ((out (exec (.releaseHold 9 3) (preparing .heldPosition base))).site 3).cmd.map PrepReq.phase =
      some (.waitBlock 0) := by
  decide +kernel

/-- The packed record of R166: serial 0x00012A40, column and row 127, RESERVED, attempts 1, last site 3,
held by 3A, no outcome. -/
theorem test_record_copy :
    (out (exec .recordCopy (out (exec (.readRecords 9 0 1) (held (some .a) base))))).sup.io.replies =
      [⟨0x2E, 9, [0, 0, 1, 0x0001, 0x2A40, 0xFF7F, 0x05F8, 0, 0x00FF, 0, 0]⟩] := by decide +kernel

theorem test_read_changed_none : (out (exec (.readChanged 9) base)).sup.io.replies =
    [⟨0x2F, 9, [0, 0xFFFF, 0, 0]⟩] := by decide +kernel

theorem test_alert :
    (out (exec (.ackAlert 9 0xFFF1) (base.report 11 none none 0))).fu.flags.fault = false ∧
    (out (exec (.setAlertMask 9 0xFFFE) (base.report 11 none none 0))).fu.alertLevel = false := by decide +kernel

theorem test_clear_faults : (out (exec (.clearFaults 9) (base.report 11 none none 0))).fu.latch = false ∧
    (out (exec (.clearFaults 9) (base.report 11 none none 0))).fu.flags.fault = true := by decide +kernel

theorem test_adoption :
    ((out (exec (.adoptionAccess 3) ((waits .adoption (burning .idle)).modChan 3 fun c => { c with
      endWrite := some ⟨.adopted, cornerTaking, 76353, true⟩ }))).recordAt 0).map
        (fun r => (r.serial, r.state, r.recovered)) = some (some 76353, .locked, true) := by decide +kernel

/-- A bounce: the count starts again (R106). -/
theorem test_contact_opens :
    (fun c => (c.qualCounter, c.bounce)) ((out (exec (.contactOpens 3) ((burning .qualifying).modChan 3 fun c => { c with
      qualCounter := 19 }))).chan 3) = (0, 1) := by decide +kernel

theorem test_qualification_complete :
    ((out (exec (.qualificationComplete 3) (burning .qualifying))).recordAt 0).map DieRecord.attempts = some 2 := by
  decide +kernel

theorem test_qualify_timeout : (out (exec (.qualifyTimeout 3) (burning .qualifying))).fu.last.map FaultRecord.code =
    some 31 ∧ ((out (exec (.qualifyTimeout 3) (burning .qualifying))).chan 3).slotA.state = .staged := by decide +kernel

/-- The 353rd measurement of a blank die: 159 fuses remain and fuse 15 is pulsed first (chapter 6, burn of the worked image). -/
theorem test_blank_check :
    (fun c => (c.state, c.curFuse, c.curWidth)) ((out (exec (.blankCheckMeasurement 3 599) ((burning .checking).modChan 3
      fun c => { c with measured := 352 }))).chan 3) = (.programming, some (.array 15), 16) := by decide +kernel

/-- A pulse out of regulation halts the channel (R123). -/
theorem test_pulse_end :
    ((out (exec (.pulseEnd 3 false) (pulsing .programming (.array 80) false))).chan 3).state = .halted ∧
    ((out (exec (.pulseEnd 3 false) (pulsing .programming (.array 80) false))).recordAt 0).map DieRecord.pulses =
      some 1 := by decide +kernel

/-- At TP the fuse is accepted, one code below it is not (R114). -/
theorem test_fuse_measurement :
    ((out (exec (.fuseMeasurementDone 3 700) (pulsing .programming (.array 15) true))).chan 3).attBits = 1 ∧
    ((out (exec (.fuseMeasurementDone 3 699) (pulsing .programming (.array 15) true))).chan 3).curWidth = 24 := by
  decide +kernel

/-- The last verify measurement of a die that reads as its image goes to the lock fuse (R116). -/
theorem test_verify :
    ((out (exec (.verifyMeasurement 3 600) ((burning .verifying).modChan 3 fun c => { c with
      measured := 351, readSoFar := workedImage &&& ~~~fuseBit 351 }))).chan 3).curFuse = some .lock := by decide +kernel

theorem test_ending_write :
    ((out (exec (.burnEndingWrite 3) ((waits .ending (burning .idle)).modChan 3 fun c => { c with
      endWrite := some ⟨.locked, cornerTaking, 76352, true⟩ }))).recordAt 0).map DieRecord.state = some .locked := by
  decide +kernel

/-- The fourth row of section 7.3. -/
theorem test_calibration :
    (fun c => (c.offset, c.degraded)) ((out (exec (.calibrationMeasurement 3 499) (base.modChan 3 fun c => { c with
      state := .calibrating, calRun := some ⟨[497, 498, 500], 0x27⟩ }))).chan 3) = (7, true) := by decide +kernel

/-- The second block of the worked window, 100017 to 100032 (chapter 2). -/
theorem test_journal_try :
    ((out (exec (.journalTryEnd 2) (writing (.advance 3) 2 .readBack base))).sa.blocks.get 3).current =
      some ⟨100017, 100033⟩ := by decide +kernel

theorem test_journal_fail : (out (exec .journalWriteFail (writing (.wafer 7) 7 .finalErase base))).fu.partStopped =
    true := by decide +kernel

theorem test_power_warning : (out (exec .pwrwarnAssert base)).js.held = true := by decide +kernel

/-- The RESET line suspends the lot and erases its secret (R3, R151). -/
theorem test_reset_line :
    (out (exec .resetLine (base.withJs { base.js with words := base.js.words.set 0 1 }))).lc.lotState = .suspended ∧
    (out (exec .resetLine base)).lc.secret = none := by decide +kernel

/-- Power-on reset of the part as delivered leaves it so. -/
theorem test_power_on : out (exec .powerOnReset State.reset) = State.reset := by decide +kernel

/-- The lot clock wraps (R18). -/
theorem test_lot_clock : (out (exec .lotClockTick (base.withLc { base.lc with clock := 0xFFFFFFFF }))).lc.clock = 0 := by
  decide

/-- A burn between a measurement and the next pulse ends at once; one whose pulse a tick has begun runs out (R121). -/
theorem test_abort_between_pulses :
    ((out (exec (.abort 3 0x44) (pulsing .programming (.array 80) false))).chan 3).endWrite.map EndWrite.ending =
      some .aborted ∧
    ((out (exec (.abort 3 0x44) (out (step (pulsing .programming (.array 80) false))))).chan 3).state = .programming := by
  decide +kernel

/-- The erase of a write of 7 leaves all ones at its end, the program phase clears the 0 bits of the value (R146). -/
theorem test_journal_phases :
    ({ base.js with write := some ⟨.wafer 7, 7, false, .erase, 34⟩ } : Journal).tick.word 10 = 65535 ∧
    (({ base.js with write := some ⟨.wafer 7, 7, false, .program, 39⟩ } : Journal).setWord 10 0xFFFF).tick.word 10 = 7 := by
  decide +kernel

/-- Counts of hits and faults take two words (R168). -/
theorem test_two_word_counts :
    (out (exec (.clearWatch 9 3) (base.withWt (base.wt.set 3 ⟨.serial 0x10002, true, 255⟩)))).sup.io.replies =
      [⟨0x2C, 9, [0, 2, 1, 2, 1, 0, 255]⟩] ∧
    (out (exec (.clearFaults 9) (base.report 11 none none 0))).sup.io.replies = [⟨0x33, 9, [0, 0, 1]⟩] := by
  decide +kernel

/-- An older waiting access is taken before a READ SUMMARY's copy (R44). -/
theorem test_read_summary_drains :
    (out (exec (.readSummary 9) (waits .binding (preparing (.binding 0 100001) (withRecord
      (cornerRecord .reserved (some ⟨3, none⟩) none) base))))).sup.io.replies.map (fun m => m.body.take 5) = [[0, 0, 1, 0, 1]] ∧
    ((out (exec (.readSummary 9) (waits .binding (preparing (.binding 0 100001) (withRecord
      (cornerRecord .reserved (some ⟨3, none⟩) none) base))))).chan 3).slotA.state = .deriving := by decide +kernel

/-- Records are counted when the copy would be made: a lookup that waits is taken first (R44, R61). -/
theorem test_read_records_waits :
    (out (exec (.readRecords 9 0 1) (waits .lookup base))).sup.lane.map SupReqState.task = some (.readRecords 0 1 []) ∧
    (out (exec (.readRecords 9 0 1) base)).sup.io.replies = [⟨0x2E, 9, [0, 0, 0]⟩] := by decide +kernel

/-- A HALTED channel is reported so, its site disabled or not (R188). -/
theorem test_load_wafer_halted :
    (out (exec (.loadWafer 1 7 128 128) (((base.withLc { base.lc with wafer := .closed }).modChan 3 fun c => { c with
      state := .halted }).modSite 3 fun x => { x with enabled := false }))).lc.load.map (fun l => l.cal.get 3) =
        some .notRunHalted := by decide +kernel

/-- Under a fixed POWER WARNING an acceptance is written and the burn ends with fault 61 (R121, R122). -/
theorem test_fixed_ending :
    ((out (exec (.fuseMeasurementDone 3 700) (fixing .powerWarning (pulsing .programming (.array 15) true)))).recordAt
      0).map DieRecord.bits = some 1 ∧
    (out (exec (.fuseMeasurementDone 3 700) (fixing .powerWarning (pulsing .programming (.array 15)
      true)))).fu.last.map FaultRecord.code = some 61 := by decide +kernel

/-! ### Witnesses: the hypotheses of each statement can be met together -/

/-- `SiteReady` from what decides it. -/
theorem siteReady_of {k : Site} {s : State} (h : s.powered = true ∧ s.full (.site k) = false ∧ s.fu.partStopped = false ∧
    (s.site k).enabled = true) : s.SiteReady k := ⟨h.1, h.2.1, h.2.2.1, h.2.2.2⟩

/-- The interruptions that fix an ending. -/
theorem interrupts_of {e : Ending} (h : e ∈ [Ending.aborted, .powerWarning, .partStopped]) :
    e = .aborted ∨ e = .powerWarning ∨ e = .partStopped := by simpa using h

/-- A burn past its blank-check start whose ending is fixed, in any state. -/
theorem fixing_fixed {e : Ending} (h : e ∈ [Ending.aborted, .powerWarning, .partStopped]) (st : ChanState) (f : Fuse)
    (m : Bool) : Channel.FixedBy .a cornerTaking e ((fixing e (pulsing st f m)).chan 3) :=
  ⟨rfl, interrupts_of h, rfl, rfl⟩

/-- `SupReady` from what decides it. -/
theorem supReady_of {s : State} (h : s.powered = true ∧ s.full .supervisor = false ∧ s.fu.partStopped = false ∧
    s.sup.lane = none) : s.SupReady := ⟨h.1, h.2.1, h.2.2.1, h.2.2.2⟩

/-- `Admits` from what decides it. -/
theorem admits_of {p : Pos} {s : State} (h : s.lc.lotState = .isOpen ∧ s.lc.wafer = .active ∧ p.col.toNat < s.lc.cols ∧
    p.row.toNat < s.lc.rows) : s.Admits p := ⟨h.1, h.2.1, h.2.2.1, h.2.2.2⟩

/-- Something decides every condition. -/
theorem decides {α : Type} (p : α → Prop) : ∃ f : α → Bool, ∀ x, f x = true ↔ p x := by
  classical exact ⟨fun x => decide (p x), fun _ => decide_eq_true_iff⟩

theorem base_admits : base.lc.lotState = .isOpen ∧ base.lc.wafer = .active ∧ corner.col.toNat < base.lc.cols ∧
    corner.row.toNat < base.lc.rows := by decide

theorem witness_StepRunsCommandAtFront :
    (base.withPending [.lotClockTick, .resetLine]).pending = .lotClockTick :: [.resetLine] ∧
    (base.pending = [] ∧ base.powered = true) ∧ (base.withPowered false).pending = [] ∧
    (base.withPowered false).powered = false := by decide

theorem witness_TimePasses : ((burning .qualifying).pending = [] ∧ (burning .qualifying).powered = true) ∧
    (((burning .qualifying).chan 3).state = .qualifying ∧
      ((burning .qualifying).chan 3).snapshot = some { profile := defaultProfile, gen := 0 }) ∧
    (∀ st ∈ [ChanState.programming, .locking], ((pulsing st .lock false).chan 3).state = st) ∧
    (base.chan 3).state ∉ [ChanState.qualifying, .programming, .locking] ∧
    (((base.modChan 3 fun c => { c with state := .qualifying }).chan 3).state = .qualifying ∧
      ((base.modChan 3 fun c => { c with state := .qualifying }).chan 3).snapshot = none) ∧
    (∀ n ∈ [33, 34], ∀ w : JWrite, w = ⟨.wafer 7, 7, false, .erase, n⟩ → w.phase = .erase ∧ (34 ≤ w.elapsed ↔ n = 34)) ∧
    ∀ n ∈ [38, 39], ∀ w : JWrite, w = ⟨.wafer 7, 7, true, .program, n⟩ →
      w.phase = .program ∧ (39 ≤ w.elapsed ↔ n = 39) := by
  refine ⟨by decide +kernel, by decide +kernel, by decide +kernel, by decide, by decide, ?_, ?_⟩
  · intro n hn w hw; subst hw; revert n; decide
  · intro n hn w hw; subst hw; revert n; decide

/-- A table of one record. -/
theorem held_consistent : (held none base).drt.Consistent where
  states := by intro st; cases st <;> decide +kernel
  exhausted := by decide +kernel
  recovered := by decide +kernel
  sorted := List.pairwise_singleton _ _
  mapped := by
    intro e he
    have : e = (posEntry corner, 0) := by simpa [held, withRecord, cornerRecord, State.withDrt] using he
    exact this ▸ ⟨_, rfl, rfl⟩
  covered := by
    intro i r h
    match i, h with
    | 0, h => cases h; exact List.mem_singleton_self _
    | n + 1, h => simp [held, withRecord, State.withDrt] at h
  capacity := by decide

theorem witness_TableStaysConsistent : ((held none base).withPending [.closeWafer 1]).drt.Consistent ∧
    ∃ t, step ((held none base).withPending [.closeWafer 1]) = .next t := ⟨held_consistent, _, rfl⟩

theorem witness_SecretOnlyUnderALot : (base.withPending [.resetLine]).lc.secretHeld ∧
    (base.withPending [.resetLine]).lc.secret = some 1 ∧ ∃ t, step (base.withPending [.resetLine]) = .next t :=
  ⟨fun _ => rfl, rfl, _, rfl⟩

/-- The default profile is in range. -/
theorem defaultProfile_inRange : defaultProfile.InRange := by constructor <;> decide

theorem pulsing_safe : (pulsing .programming (.array 80) false).PulsesSafe where
  offered := defaultProfile_inRange
  channels k := by
    match k with
    | 0 | 1 | 2 => exact ⟨nofun, by decide, nofun, nofun⟩
    | 3 =>
      constructor
      · intro sn h; cases h; exact defaultProfile_inRange
      · decide +kernel
      · intro sn h _; cases h; decide +kernel
      · intro sn h _; cases h; decide +kernel

theorem witness_PulsesStayWithinProfile :
    ((pulsing .programming (.array 80) false).withPending [.pulseEnd 3 true]).PulsesSafe ∧
    ∃ t, step ((pulsing .programming (.array 80) false).withPending [.pulseEnd 3 true]) = .next t :=
  ⟨⟨pulsing_safe.offered, pulsing_safe.channels⟩, _, rfl⟩

theorem pulsing_slotsHold : (pulsing .programming (.array 80) false).SlotsHold := by
  intro k
  match k with
  | 0 | 1 | 2 => exact ⟨⟨by decide, by decide⟩, ⟨by decide, by decide⟩⟩
  | 3 => exact ⟨⟨by decide +kernel, by decide +kernel⟩, ⟨by decide +kernel, by decide +kernel⟩⟩

theorem witness_SlotsKeepTheirFields :
    ((pulsing .programming (.array 80) false).withPending [.pulseEnd 3 false]).SlotsHold ∧
    ∃ t, step ((pulsing .programming (.array 80) false).withPending [.pulseEnd 3 false]) = .next t :=
  ⟨pulsing_slotsHold, _, rfl⟩

theorem witness_FoldedSumIsTheResidue : (List.replicate 1027 (0xFFFF : Word)).length ≤ 1027 := by decide +kernel

theorem witness_FormedCheckWordIsValid : foldedSum [0xFFFE] ≠ 65535 := by decide

theorem witness_OneWrongFuseIsFound : 0 < 352 ∧ 351 < 352 := by decide

/-- A slot entry of a site. -/
def entryOf (k : Site) : DEntry := .slot k .a 1 corner 0x5C13

theorem witness_DerivationsAreServedRoundRobin :
    ((∀ j : Fin 4, j < 1 → ∀ x ∈ [entryOf 0, entryOf 3, entryOf 3], x.site ≠ some (2 + j)) ∧
      [entryOf 0, entryOf 3, entryOf 3] = [entryOf 0] ++ entryOf 3 :: [entryOf 3] ∧ (entryOf 3).site = some (2 + 1) ∧
      ∀ x ∈ [entryOf 0], x.site ≠ some (2 + 1)) ∧
    ([DEntry.fingerprint 1] = .fingerprint 1 :: [] ∧ ∀ x ∈ [DEntry.fingerprint 1], x.site = none) ∧
    (derives (entryOf 0) base).du.current = some ⟨entryOf 0, 1, false⟩ ∧
    ∀ s, s = base.withDu ⟨[.fingerprint 3, entryOf 1], none, 2⟩ → s.du.current = none ∧ s.lc.secret = some 1 ∧
      chooseEntry s.du.pointer (s.du.queue ++ [entryOf 0]) = some (entryOf 0, [.fingerprint 3, entryOf 1], 1) := by
  refine ⟨by decide, by decide, by decide, ?_⟩
  rintro s rfl; decide

/-- A part whose site 3 has these blocks. -/
def blocked (b : SiteBlocks) (s : State) : State := s.withSa { s.sa with blocks := s.sa.blocks.set 3 b }

theorem witness_DrawFollowsTheBlocks :
    (∀ b : SiteBlocks, (blocked b base).sa.blocks.get 3 = b) ∧
    (∀ b : SiteBlocks, b = ⟨some ⟨100012, 100017⟩, .absent⟩ → b.current = some ⟨100012, 100017⟩ ∧ 100012 < 100017 ∧
      b.next = .absent ∧ 100017 ≤ 100012 + 5 ∧ ¬100018 ≤ 100012 + 5) ∧
    (∀ b : SiteBlocks, b = ⟨some ⟨100017, 100017⟩, .ready 100017 100033⟩ →
      (∃ x, b.current = some x ∧ x.stop ≤ x.next) ∧ b.next = .ready 100017 100033) ∧
    (∀ n ∈ [NextBlock.pending, .absent], (⟨none, n⟩ : SiteBlocks).current = none ∧ (⟨none, n⟩ : SiteBlocks).next = n) ∧
    (base.sa.exhausted = false ∧ base.pwrwarn = false ∧
      16 * (base.sa.mark + base.sa.outstanding) < base.lc.header.count.toNat) ∧
    (∀ s, s = base.withSa { base.sa with mark := 2, outstanding := 1 } → s.sa.exhausted = false ∧
      s.lc.header.count.toNat ≤ 16 * (s.sa.mark + s.sa.outstanding)) ∧
    (base.withSa { base.sa with exhausted := true }).sa.exhausted = true := by
  refine ⟨fun _ => rfl, ?_, ?_, by decide, by decide, ?_, by decide⟩
  · rintro b rfl; decide
  · rintro b rfl; exact ⟨⟨_, rfl, Nat.le_refl _⟩, rfl⟩
  · rintro s rfl; decide

theorem witness_FaultsAreRecorded : ∃ t, t = base.report 71 (some 3) (some corner) 0x23 := ⟨_, rfl⟩

theorem witness_PrepareIsTaken : base.SiteReady 3 ∧ base.Admits corner ∧ (base.site 3).cmd = none :=
  ⟨siteReady_of (by decide), admits_of (by decide), by decide⟩

/-- Site 3's eight reply places are taken. -/
def crowded : State := base.withIo (.site 3) { LinkIo.reset with replies := List.replicate 8 ⟨4, 0, [0]⟩ }

theorem witness_RequestsAreRefusedInOrder :
    ((∀ s, s = base.withIo .supervisor { LinkIo.reset with replies := List.replicate 8 ⟨0x32, 0, [0]⟩ } →
        s.powered = true ∧ s.full .supervisor = true) ∧
      (∀ r : SupReq, ∃ kind : Byte, kind = (r.message 9).kind) ∧
      ((SupReq.closeLot.message 9).kind ∉ [(0x2E : Byte), 0x2F, 0x30, 0x31, 0x32, 0x33, 0x34] ∧
        (SupReq.readFaults.message 9).kind ∈ [(0x2E : Byte), 0x2F, 0x30, 0x32, 0x33, 0x34]) ∧
      ∀ stop, ∀ s, s = asked 0x23 .loadWafer (base.withFu { base.fu with partStopped := stop }) → s.powered = true ∧
        s.full .supervisor = false ∧ s.fu.partStopped = stop ∧ s.sup.lane ≠ none) ∧
    (crowded.powered = true ∧ crowded.full (.site 3) = true) ∧
    (∀ s, s = base.withFu { base.fu with partStopped := true } →
      s.powered = true ∧ s.full (.site 3) = false ∧ s.fu.partStopped = true) ∧
    (∀ s, s = base.modSite 3 (fun x => { x with enabled := false }) →
      s.powered = true ∧ s.full (.site 3) = false ∧ s.fu.partStopped = false ∧ (s.site 3).enabled = false) ∧
    ((preparing .lookup base).SiteReady 3 ∧ ((preparing .lookup base).site 3).cmd ≠ none) ∧
    ((burnLane base).SiteReady 3 ∧ ((burnLane base).site 3).burn ≠ none) ∧
    (∀ st, State.SiteReady 3 (base.withLc { base.lc with lotState := st }) ∧
      (base.site 3).cmd = none ∧ (base.site 3).burn = none) ∧
    (base.withLc { base.lc with lotState := .suspended }).lc.lotState ≠ .isOpen ∧
    (base.withLc { base.lc with wafer := .closed }).lc.wafer ≠ .active ∧
    base.lc.lotState = .isOpen ∧ base.lc.wafer = .active ∧ base.lc.cols ≤ (⟨128, 0⟩ : Pos).col.toNat ∧
    base.lc.rows ≤ (⟨0, 128⟩ : Pos).row.toNat := by
  refine ⟨⟨?_, fun _ => ⟨_, rfl⟩, by decide, ?_⟩, by decide, ?_, ?_, ⟨siteReady_of (by decide), by decide⟩,
    ⟨siteReady_of (by decide), by decide⟩, ?_, by decide, by decide, by decide, by decide, by decide, by decide⟩
  · rintro s rfl; decide
  · rintro stop s rfl; exact ⟨rfl, rfl, rfl, nofun⟩
  · rintro s rfl; decide
  · rintro s rfl; decide
  · intro st; exact ⟨siteReady_of ⟨rfl, rfl, rfl, rfl⟩, by decide, by decide⟩

/-- Channel 3 waits for the derivation of slot 3A, which its BURN names. -/
def awaiting : State :=
  (burnLane (slotIn .deriving none (held (some .a) base))).modChan 3 fun c => { c with
    state := .waiting, burning := some .a }

/-- Slot 3A is taken for record 1 while record 0 still names it, and older accesses wait at the port. -/
def retaken : State :=
  { (slotIn .staged (some workedImage) (held (some .a) base)).modChan 3 fun c => { c with
      slotA := { c.slotA with taking := some ⟨1, ⟨0, 0⟩, 76353⟩ } } with
    port := [⟨.clearing 5, 2, 0⟩, ⟨.clearing 5, 3, 1⟩]
    now := 1 }

theorem witness_ReleaseEmptiesTheSlot :
    (base.SiteReady 3 ∧ base.Admits corner ∧ (base.site 3).cmd = none ∧ base.drainFor 3 false = base ∧
      base.drt.lookup corner = none) ∧
    (∀ st i, ∀ s, s = slotIn st i (held (some .a) base) → s.SiteReady 3 ∧ s.Admits corner ∧ (s.site 3).cmd = none ∧
      s.port = [] ∧ s.drt.lookup corner = some 0 ∧
      s.drt.records[0]? = some (cornerRecord .reserved (some ⟨3, some .a⟩) (some 76352)) ∧
      ((s.chan 3).slot .a).taking = some cornerTaking ∧ cornerTaking.idx = 0 ∧ ((s.chan 3).slot .a).state = st ∧
      (s.chan 3).state ≠ .waiting) ∧
    (∀ s, s = awaiting → s.SiteReady 3 ∧ s.Admits corner ∧ (s.site 3).cmd = none ∧ s.drainFor 3 false = s ∧
      ((s.chan 3).slot .a).state = .deriving ∧ (s.chan 3).state = .waiting ∧ (s.chan 3).burning = some .a ∧
      (s.site 3).burn = some ⟨0x41, corner, false⟩ ∧ (s.site 3).aborts = []) ∧
    (∀ e ∈ [({ access := .ending, site := 3, moment := 0 } : PortEntry), ⟨.lookup, 0, 0⟩],
      e.moment = base.now ∧ ¬(e.site = 3 ∧ e.access.byChannel = false)) ∧
    ∀ s, s = retaken → s.SiteReady 3 ∧ s.Admits corner ∧ (s.site 3).cmd = none ∧ s.drainFor 3 false ≠ s ∧
      (s.drainFor 3 false).drt.lookup corner = some 0 ∧
      (s.drainFor 3 false).drt.records[0]? = some (cornerRecord .reserved (some ⟨3, some .a⟩) (some 76352)) ∧
      (((s.drainFor 3 false).chan 3).slot .a).taking.map Taking.idx ≠ some 0 := by
  refine ⟨⟨siteReady_of (by decide), admits_of (by decide), by decide, by decide +kernel, by decide⟩, ?_, ?_,
    by decide, ?_⟩
  · rintro st i s rfl
    exact ⟨siteReady_of ⟨rfl, rfl, rfl, rfl⟩, admits_of base_admits, rfl, rfl, rfl, rfl, rfl, rfl, rfl, nofun⟩
  · rintro s rfl
    exact ⟨siteReady_of (by decide +kernel), admits_of (by decide +kernel), by decide +kernel⟩
  · rintro s rfl
    exact ⟨siteReady_of (by decide +kernel), admits_of (by decide +kernel), by decide +kernel⟩

theorem witness_BurnIsAccepted :
    (base.SiteReady 3 ∧ base.Admits corner ∧ (base.site 3).burn = none ∧ (base.site 3).aborts = [] ∧
      base.drt.lookup corner = none) ∧
    (∀ a ∈ [(⟨0x44, true, false⟩ : AbortWait)], a.waitsCmd = true ∧ a.waitsBurn = false) ∧
    (∀ st c w, ∀ s, s = (((slotIn st (some workedImage) (held (some .a) base)).modChan 3 fun x => { x with
        state := c })).withPwrwarn w →
      s.SiteReady 3 ∧ s.Admits corner ∧ (s.site 3).burn = none ∧ (s.site 3).aborts = [] ∧
      s.drt.lookup corner = some 0 ∧
      s.drt.records[0]? = some (cornerRecord .reserved (some ⟨3, some .a⟩) (some 76352)) ∧
      ((s.chan 3).slot .a).state = st ∧ (s.chan 3).state = c ∧ s.pwrwarn = w) := by
  refine ⟨⟨siteReady_of (by decide), admits_of (by decide), by decide⟩, by decide, ?_⟩
  rintro st c w s rfl
  exact ⟨siteReady_of ⟨rfl, rfl, rfl, rfl⟩, admits_of base_admits, rfl, rfl, rfl, rfl, rfl, rfl, rfl⟩

/-- An ABORT of tag 0x44 has found site 3's PREPARE in its lookup, and the site has these blocks. -/
def abortedLookup (b : SiteBlocks) : State :=
  (waits .lookup (blocked b base)).modSite 3 fun sl =>
    { sl with cmd := some ⟨0x40, corner, .lookup, true⟩, aborts := [⟨0x44, true, false⟩] }

theorem witness_AbortEndsTheWaitingDraw :
    (base.SiteReady 3 ∧ (base.site 3).burn = none ∧ (base.site 3).aborts = [] ∧ (base.site 3).cmd = none) ∧
    (∀ ph, ∀ s, s = preparing ph (held none base) → s.SiteReady 3 ∧ (s.site 3).burn = none ∧
      (s.site 3).aborts = [] ∧ (s.site 3).cmd = some ⟨0x40, corner, ph, false⟩) ∧
    (∀ s, s = base.modSite 3 (fun x => { x with burn := some ⟨0x41, corner, true⟩ }) → s.SiteReady 3 ∧
      (s.site 3).cmd = none ∧ (s.site 3).aborts = [] ∧ (s.site 3).burn = some ⟨0x41, corner, true⟩) ∧
    (∀ st f m, ∀ s, s = pulsing st f m → s.SiteReady 3 ∧ (s.site 3).cmd = none ∧ (s.site 3).aborts = [] ∧
      (s.site 3).burn = some ⟨0x41, corner, false⟩ ∧ (s.chan 3).burning = some .a ∧
      ((s.chan 3).slot .a).taking = some cornerTaking ∧ (s.chan 3).state = st ∧
      s.drt.records[0]? = some (cornerRecord .burning (some ⟨3, some .a⟩) (some 76352))) ∧
    (((pulsing .adoptWait .lock false).chan 3).endsAtOnce = true ∧
      ((pulsing .programming (.array 15) false).chan 3).endsAtOnce = true ∧
      ((pulsing .locking .lock false).chan 3).endsAtOnce = true) ∧
    (((pulsing .checking .lock false).chan 3).runsOut = true ∧ ((pulsing .verifying .lock false).chan 3).runsOut = true ∧
      ((pulsing .locking .lock true).chan 3).runsOut = true) ∧
    (∀ ph, ∀ s, s = (preparing ph base).modSite 3 (fun x => { x with burn := some ⟨0x41, corner, true⟩ }) →
      s.SiteReady 3 ∧ (s.site 3).cmd = some ⟨0x40, corner, ph, false⟩ ∧ (s.site 3).aborts = [] ∧
      (s.site 3).burn = some ⟨0x41, corner, true⟩) ∧
    (∀ ph, ∀ s, s = (preparing ph (burning .verifying)).modSite 3 (fun x => { x with aborts := [⟨0x44, true, true⟩] }) →
      s.SiteReady 3 ∧ (s.site 3).cmd = some ⟨0x40, corner, ph, false⟩ ∧ (s.site 3).burn = some ⟨0x41, corner, false⟩ ∧
      (s.chan 3).runsOut = true ∧ ∀ a ∈ (s.site 3).aborts, a.waitsBurn = true) ∧
    (∀ st, ∀ s, s = (burning st).modSite 3 (fun x => { x with aborts := [⟨0x44, false, true⟩] }) →
      s.SiteReady 3 ∧ (s.site 3).cmd = none ∧ (s.site 3).burn = some ⟨0x41, corner, false⟩ ∧ (s.chan 3).state = st ∧
      ∀ a ∈ (s.site 3).aborts, a.waitsBurn = true) ∧
    (∀ s, s = abortedLookup ⟨some ⟨10, 20⟩, .absent⟩ ∨ s = abortedLookup ⟨none, .absent⟩ →
      s.powered = true ∧ s.fu.partStopped = false ∧ (s.site 3).cmd = some ⟨0x40, corner, .lookup, true⟩ ∧
      s.sup.lane = none ∧ (s.site 3).aborts = [⟨0x44, true, false⟩] ∧ s.port = { access := .lookup, site := 3, moment := 0 } :: [] ∧
      s.drt.lookup corner = none ∧ s.drt.records.length < 8192 ∧ (s.chan 3).freeSlot ≠ none) ∧
    (((abortedLookup ⟨some ⟨10, 20⟩, .absent⟩).draw 3).2 = .drawn 10 ∧
      ((abortedLookup ⟨none, .absent⟩).draw 3).2 = .waits) ∧
    ((0 : Site) ≠ 3 ∧ ∃ t, exec (.abort 3 0x44) (burning .checking) = .next t) := by
  refine ⟨⟨siteReady_of (by decide), by decide, by decide, by decide⟩, ?_, ?_, ?_, by decide +kernel, by decide +kernel,
    ?_, ?_, ?_, ?_, by decide +kernel, by decide, _, rfl⟩
  · rintro ph s rfl; exact ⟨siteReady_of ⟨rfl, rfl, rfl, rfl⟩, rfl, rfl, rfl⟩
  · rintro s rfl; exact ⟨siteReady_of (by decide), by decide⟩
  · rintro st f m s rfl; exact ⟨siteReady_of ⟨rfl, rfl, rfl, rfl⟩, rfl, rfl, rfl, rfl, rfl, rfl, rfl⟩
  · rintro ph s rfl; exact ⟨siteReady_of ⟨rfl, rfl, rfl, rfl⟩, rfl, rfl, rfl⟩
  · rintro ph s rfl
    exact ⟨siteReady_of ⟨rfl, rfl, rfl, rfl⟩, rfl, rfl, rfl, fun a h => by cases List.mem_singleton.mp h; rfl⟩
  · rintro st s rfl
    exact ⟨siteReady_of ⟨rfl, rfl, rfl, rfl⟩, rfl, rfl, rfl, fun a h => by cases List.mem_singleton.mp h; rfl⟩
  · rintro s (rfl | rfl) <;> exact ⟨rfl, rfl, rfl, rfl, rfl, rfl, rfl, by decide, nofun⟩

theorem witness_StatusRequestsAreAnswered : base.powered = true ∧ base.full (.site 3) = false ∧
    base.full .supervisor = false := by decide

theorem witness_BrokenMessagesAreReported : base.powered = true ∧
    (wholeMessage [0x0140, 1, 0x2553, 0xD96C] = true ∧ foldedSum [0x0140, 1, 0x2553, 0xD96C] ≠ 65535) ∧
    (wholeMessage [0x0600, 0, 0xF9FF] = true ∧ foldedSum [0x0600, 0, 0xF9FF] = 65535 ∧
      bodyLength (.site 3) (hiByte 0x0600) = none) ∧
    (wholeMessage [0x0540, 1, 0, 0xFABE] = true ∧ foldedSum [0x0540, 1, 0, 0xFABE] = 65535 ∧
      bodyLength (.site 3) (hiByte 0x0540) = some 0 ∧ [0x0540, 1, 0, (0xFABE : Word)].length ≠ 0 + 3) := by decide

/-- Site link 3 with a receiver and replies. -/
def listening (x : LinkIo) : State := base.withIo (.site 3) x

theorem witness_ReceiversFollowTheLine :
    (base.powered = true ∧ (base.io .supervisor).rx = .await ∧ (base.io .supervisor).buf = []) ∧
    (((listening ⟨.collect, [1, 2], 0, []⟩).io (.site 3)).rx = .collect ∧
      ((listening ⟨.collect, [1, 2], 0, []⟩).io (.site 3)).buf.length < 3) ∧
    (((listening ⟨.collect, [1, 2, 4], 0, []⟩).io (.site 3)).buf = [1, 2, 4] ∧ 1024 < (joinBytes 4 1).toNat ∧
      ¬1024 < (joinBytes 4 0).toNat) ∧
    (((listening ⟨.collect, [1, 0x40, 0, 1, 0x25], 0, []⟩).io (.site 3)).buf = 1 :: 0x40 :: 0 :: 1 :: [0x25] ∧
      (joinBytes 0 1).toNat ≤ 1024 ∧ [(0x25 : Byte)].length + 5 ≠ 2 * ((joinBytes 0 1).toNat + 3)) ∧
    ((listening ⟨.discard, [1, 2, 4, 1], 0, []⟩).io (.site 3)).rx = .discard ∧
    ((listening ⟨.collect, [0x01, 0x40, 0x00, 0x01, 0x25, 0x52, 0xD9], 0, []⟩).io (.site 3)).buf ++ [0x6C] =
      bytesOf ((SiteReq.prepare ⟨37, 82⟩).message 0x40).words ∧
    (([0x31, 0x09, 0, 0, 0xCE] : List Byte) ++ [0xF6] = bytesOf (SupReq.message .readStatus 9).words) ∧
    (([1, 2, 0, 0, 9] : List Byte) ++ [9] = bytesOf [0x0102, 0, 0x0909] ∧ wholeMessage [0x0102, 0, 0x0909] = true ∧
      checkFrame (.site 3) [0x0102, 0, 0x0909] = .bad 0 2) ∧
    ((listening ⟨.discard, [1, 2, 4, 1], 0, []⟩).io (.site 3)).rx ≠ .await ∧
    ((listening ⟨.await, [], 0, [⟨4, 1, [0]⟩]⟩).io (.site 3)).replies = ⟨4, 1, [0]⟩ :: [] := by decide

/-- The lookup of site 3's PREPARE waits, with a block at its end but six. -/
def lookingUp (s : State) : State := waits .lookup (preparing .lookup (blocked ⟨some ⟨10, 16⟩, .absent⟩ s))

theorem witness_LookupFollowsTheRecord :
    (∀ d, ∀ s, s = withRecord d (lookingUp base) ∨ s = lookingUp base → s.powered = true ∧ s.fu.partStopped = false ∧
      (s.site 3).cmd = some ⟨0x40, corner, .lookup, false⟩ ∧
      s.port = { access := .lookup, site := 3, moment := 0 } :: [] ∧ (s.chan 3).freeSlot ≠ none) ∧
    ((lookingUp base).drt.lookup corner = none ∧ (lookingUp base).drt.records.length = 0) ∧
    (((lookingUp base).draw 3).2 = .drawn 10 ∧ ((blocked ⟨none, .absent⟩ (lookingUp base)).draw 3).2 = .waits ∧
      ((blocked ⟨none, .absent⟩ ((lookingUp base).withSa { base.sa with mark := 3 })).draw 3).2 = .exhausted) ∧
    (∀ n, ∀ s, s = (lookingUp base).withDrt { base.drt with
        records := List.replicate n (cornerRecord .retired none none) } →
      s.drt.lookup corner = none ∧ s.drt.records.length = n ∧ (s.chan 3).freeSlot ≠ none) ∧
    (∀ st h n, ∀ s, s = withRecord (cornerRecord st h n) (lookingUp base) → s.drt.lookup corner = some 0 ∧
      s.drt.records[0]? = some (cornerRecord st h n) ∧ (cornerRecord st h n).exhausted = false) ∧
    ((⟨0, none⟩ : Holder).site ≠ 3 ∧ (⟨3, none⟩ : Holder).slot = none) ∧
    (((lookingUp base).modChan 3 fun c => { c with
      slotA := { c.slotA with state := .staged }, slotB := { c.slotB with state := .staged } }).chan 3).freeSlot = none ∧
    ({ cornerRecord .failed none (some 76352) with exhausted := true } : DieRecord).exhausted = true := by
  refine ⟨?_, by decide, by decide +kernel, ?_, ?_, by decide, by decide +kernel, by decide⟩
  · rintro d s (rfl | rfl) <;> exact ⟨rfl, rfl, rfl, rfl, nofun⟩
  · rintro n s rfl
    exact ⟨rfl, List.length_replicate .., nofun⟩
  · rintro st h n s rfl
    exact ⟨withRecord_lookup _ _, rfl, rfl⟩

/-- Watch entries 0 and 3 on the serial 76352, with and without a hold, or on its position. -/
def watched (hold : Bool) (s : State) : State :=
  s.withWt ⟨⟨.serial 76352, false, 255⟩, WatchEntry.reset, WatchEntry.reset, ⟨.serial 76352, hold, 0⟩⟩

theorem witness_BindingFillsTheSerial : ∀ hold, ∀ s,
    s = watched hold (waits .binding (preparing (.binding 0 76352) (withRecord
      (cornerRecord .reserved (some ⟨3, none⟩) none) base))) →
    s.powered = true ∧ (s.site 3).cmd = some ⟨0x40, corner, .binding 0 76352, false⟩ ∧
    s.port = { access := .binding, site := 3, moment := 0 } :: [] ∧
    s.drt.records[0]? = some (cornerRecord .reserved (some ⟨3, none⟩) none) := by
  rintro hold s rfl; revert hold; decide +kernel

/-- A fingerprint derivation is in progress. -/
def fingerprinting (s : State) : State := derives (.fingerprint 0x5C13) s

theorem witness_SlotAccessStartsTheDerivation :
    (∀ s, s = fingerprinting (waits .slotTaking (preparing (.slotTaking 0) (held none base))) →
      s.powered = true ∧ (s.site 3).cmd = some ⟨0x40, corner, .slotTaking 0, false⟩ ∧ (s.site 3).aborts = [] ∧
      s.port = { access := .slotTaking, site := 3, moment := 0 } :: [] ∧
      s.drt.records[0]? = some (cornerRecord .reserved (some ⟨3, none⟩) (some 76352)) ∧
      s.du.current = some ⟨.fingerprint 0x5C13, 1, false⟩ ∧
      SlotId.a = (if (s.chan 3).slotA.state = .empty then SlotId.a else .b) ∧ ((s.chan 3).slot .a).state = .empty) ∧
    ∀ s, s = slotIn .staged (some workedImage) base →
      SlotId.b = (if (s.chan 3).slotA.state = .empty then SlotId.a else .b) ∧ ((s.chan 3).slot .b).state = .empty := by
  constructor
  · rintro s rfl; decide +kernel
  · rintro s rfl; decide +kernel

theorem witness_ClaimIsCleared : ∀ s, s = waits (.clearing 0) (held none base) →
    s.powered = true ∧ s.port = { access := .clearing 0, site := 3, moment := 0 } :: [] ∧
    s.drt.records[0]? = some (cornerRecord .reserved (some ⟨3, none⟩) (some 76352)) ∧
    (cornerRecord .reserved (some ⟨3, none⟩) (some 76352)).holder = some { site := 3, slot := none } := by
  rintro s rfl; decide +kernel

/-- Channel 3's burn has ended with `e`, and its access waits at the port. -/
def ended (a : Access) (e : Ending) : State :=
  (waits a (burning .idle)).modChan 3 fun c => { c with endWrite := some ⟨e, cornerTaking, 76353, true⟩ }

theorem witness_EndingWriteEndsTheRecord :
    ∀ e ∈ [Ending.verified, .locked, .bitOpen, .verifyLoss, .lockOpen, .contactLost, .aborted, .powerWarning,
      .driverFault, .partStopped, .fuseConflict, .foreignDie], ∀ s, s = ended .ending e →
    s.powered = true ∧ s.port = { access := .ending, site := 3, moment := 0 } :: [] ∧
    (s.chan 3).endWrite = some ⟨e, cornerTaking, 76353, true⟩ ∧
    s.drt.records[0]? = some (cornerRecord .burning (some ⟨3, some .a⟩) (some 76352)) ∧
    (s.site 3).burn = some ⟨0x41, corner, false⟩ ∧
    (s.site 3).aborts = [] ++ [] ∧
    ∀ done wait, done = [⟨0x44, false, true⟩] → wait = [] ∨ wait = [⟨0x45, true, true⟩, ⟨0x46, false, true⟩] →
      ((s.modSite 3 fun x => { x with aborts := done ++ wait }).site 3).aborts = done ++ wait ∧
      (∀ a ∈ done, a.waitsCmd = false) ∧ ∀ a, wait.head? = some a → a.waitsCmd = true := by
  intro e he s hs
  subst hs
  revert e
  refine fun e he => ⟨rfl, rfl, rfl, rfl, rfl, rfl, ?_⟩
  rintro done wait rfl (rfl | rfl)
  · exact ⟨rfl, by decide, nofun⟩
  · exact ⟨rfl, by decide, fun a h => by cases h; rfl⟩

/-- The serial lookup of channel 3's burn waits, with a second record that may hold the read serial. -/
def adopting (n : Option Serial) : State :=
  ((fingerprinting (waits .serialLookup (burning .checking))).modChan 3 fun c => { c with
    readImage := some workedImage }).withDrt
    { (burning .checking).drt with records := [cornerRecord .burning (some ⟨3, some .a⟩) (some 76353),
        { cornerRecord .locked none n with pos := ⟨0, 0⟩ }] }

theorem witness_AdoptionDecidesTheDie :
    (∀ n, ∀ s, s = adopting n → s.powered = true ∧ s.port = { access := .serialLookup, site := 3, moment := 0 } :: [] ∧
      (s.chan 3).state = .checking ∧ (s.chan 3).readImage = some workedImage ∧ (s.chan 3).burning = some .a ∧
      ((s.chan 3).slot .a).taking = some cornerTaking) ∧
    (adopting (some 1)).drt.serialHeld 0 (readSerialOf workedImage) = false ∧
    (adopting (some 76352)).drt.serialHeld 0 (readSerialOf workedImage) = true ∧
    (∀ r, r = cornerRecord .burning (some ⟨3, some .a⟩) (some 76352) → r.state = .burning ∧ r.exhausted = false ∧
      r.recovered = false ∧ r.attempts = 1) ∧
    (∀ s, s = ended .adoption .adopted → s.powered = true ∧
      s.port = { access := .adoption, site := 3, moment := 0 } :: [] ∧
      (s.chan 3).endWrite = some ⟨.adopted, cornerTaking, 76353, true⟩ ∧
      s.drt.records[0]? = some (cornerRecord .burning (some ⟨3, some .a⟩) (some 76352)) ∧
      (s.site 3).burn = some ⟨0x41, corner, false⟩ ∧ (s.site 3).aborts = [] ∧
      ∀ j r₂, s.drt.records[j]? = some r₂ → j ≠ 0 → r₂.serial ≠ some 76353) ∧
    ∀ s, s = (ended .adoption .adopted).withDrt (adopting (some 76353)).drt →
      s.port = { access := .adoption, site := 3, moment := 0 } :: [] ∧
      (s.chan 3).endWrite = some ⟨.adopted, cornerTaking, 76353, true⟩ ∧
      s.drt.records[0]? = some (cornerRecord .burning (some ⟨3, some .a⟩) (some 76353)) ∧
      (s.site 3).burn = some ⟨0x41, corner, false⟩ ∧ (s.site 3).aborts = [] ∧
      s.drt.records[1]? = some { cornerRecord .locked none (some 76353) with pos := ⟨0, 0⟩ } := by
  refine ⟨?_, by decide +kernel, by decide +kernel, ?_, ?_, ?_⟩
  · rintro n s rfl
    exact ⟨rfl, rfl, rfl, rfl, rfl, rfl⟩
  · rintro r rfl; decide
  · rintro s rfl
    refine ⟨rfl, rfl, rfl, rfl, rfl, rfl, ?_⟩
    intro j r h hj
    match j, h with
    | 0, _ => exact absurd rfl hj
    | n + 1, h => cases h
  · rintro s rfl; exact ⟨rfl, rfl, rfl, rfl, rfl, rfl⟩

theorem witness_ContactIsFollowed :
    ((burning .qualifying).powered = true ∧ ((burning .qualifying).chan 3).contact = true ∧
      ((burning .qualifying).chan 3).state = .qualifying) ∧
    (base.chan 3).state ∈ [ChanState.uncalibrated, .calibrating, .idle, .waiting, .halted] ∧
    (∀ st d, ∀ s, s = (pulsing st .lock false).modChan 3 (fun c => { c with driving := d }) →
      s.powered = true ∧ (s.chan 3).contact = true ∧ (s.chan 3).state = st ∧ (s.chan 3).ending = none ∧
      (s.chan 3).burning = some .a ∧ ((s.chan 3).slot .a).taking = some cornerTaking ∧ (s.chan 3).driving = d) ∧
    (((pulsing .programming .lock false).chan 3).pulsing = true ∧
      ((pulsing .verifying .lock false).chan 3).pulsing = false) ∧
    ∀ st, ∀ e ∈ [Ending.aborted, .powerWarning, .partStopped], ∀ s, s = fixing e (pulsing st .lock false) →
      s.powered = true ∧ (s.chan 3).contact = true ∧ (s.chan 3).state = st ∧
      Channel.FixedBy .a cornerTaking e (s.chan 3) := by
  refine ⟨by decide +kernel, by decide, ?_, by decide +kernel, ?_⟩
  · rintro st d s rfl
    exact ⟨rfl, rfl, rfl, rfl, rfl, rfl, rfl⟩
  · rintro st e h s rfl
    exact ⟨rfl, rfl, rfl, fixing_fixed h st .lock false⟩

theorem witness_QualificationBeginsTheBlankCheck :
    (∀ w p, ∀ s v, s = ((burning .qualifying).withPwrwarn w).withPort p →
      v = { s with chans := s.chans.set 3 { s.chan 3 with qualCounter := defaultProfile.settle } } →
      s.powered = true ∧ (s.chan 3).state = .qualifying ∧ (s.chan 3).contact = true ∧
      (s.chan 3).snapshot = some ⟨defaultProfile, 0⟩ ∧ s.pwrwarn = w ∧ v.port = p) ∧
    (∀ e ∈ [({ access := .clearing 0, site := 3, moment := 0 } : PortEntry), ⟨.lookup, 0, 0⟩],
      e.moment = base.now ∧ ¬(e.site = 3 ∧ e.access.byChannel = true)) ∧
    ∀ p ∈ [[], [({ access := .clearing 5, site := 2, moment := 7 } : PortEntry)]], ∀ u,
      u = ((burning .qualifying).withPort p).drainFor 3 true → u.port = [] ∧ (u.chan 3).burning = some .a ∧
        ((u.chan 3).slot .a).taking = some cornerTaking ∧
        u.drt.records[0]? = some (cornerRecord .burning (some ⟨3, some .a⟩) (some 76352)) := by
  refine ⟨?_, by decide, ?_⟩
  · rintro w p s v rfl rfl; exact ⟨rfl, rfl, rfl, rfl, rfl, rfl⟩
  · intro p hp u hu; subst hu; revert p; decide +kernel

theorem witness_QualifyTimeoutEndsWithoutContact : ∀ s, s = burning .qualifying →
    s.powered = true ∧ (s.chan 3).state = .qualifying ∧ (s.chan 3).burning = some .a ∧
    ((s.chan 3).slot .a).taking = some cornerTaking ∧ ((s.chan 3).slot .a).state = .burning ∧
    s.drt.records[0]? = some (cornerRecord .burning (some ⟨3, some .a⟩) (some 76352)) ∧
    (s.site 3).burn = some ⟨0x41, corner, false⟩ ∧ (s.site 3).aborts = [] := by
  rintro s rfl; decide +kernel

/-- Channel 3 reads its die: `n` measurements taken, `r` read. -/
def reading (st : ChanState) (n : Nat) (r : Image) : State :=
  (burning st).modChan 3 fun c => { c with measured := n, readSoFar := r }

/-- The image of a lot without the lock option. -/
def unlockedImage : Image := assembleImage 76352 0x5C13 corner 0x0103 workedKey

/-- Another identity of the same lot at the same position. -/
def otherImage : Image := assembleImage 100001 0x5C13 corner 0x8103 workedKey

/-- The read of another identity is whole, with `m` blocks committed. -/
def foreignRead (m : Nat) : State :=
  (reading .checking 352 otherImage).withSa { (reading .checking 352 otherImage).sa with mark := m }

theorem witness_BlankCheckReadsAndClassifies :
    (∀ s, s = reading .checking 351 0 → s.powered = true ∧ (s.chan 3).state = .checking ∧
      (s.chan 3).snapshot = some ⟨defaultProfile, 0⟩ ∧ (s.chan 3).lookupWait = false ∧ (s.chan 3).ending = none ∧
      (s.chan 3).measured < 352) ∧
    (∀ r, ∀ s, s = reading .checking 352 r →
      s.powered = true ∧ (s.chan 3).state = .checking ∧ (s.chan 3).snapshot = some ⟨defaultProfile, 0⟩ ∧
      (s.chan 3).lookupWait = false ∧ (s.chan 3).ending = none ∧ (s.chan 3).measured = 352 ∧
      (s.chan 3).burning = some .a ∧ ((s.chan 3).slot .a).taking = some cornerTaking ∧
      ((s.chan 3).slot .a).image = some workedImage) ∧
    (∀ e ∈ [Ending.aborted, .powerWarning, .partStopped], ∀ s, s = fixing e (pulsing .checking .lock false) →
      s.powered = true ∧ (s.chan 3).state = .checking ∧ (s.chan 3).snapshot = some ⟨defaultProfile, 0⟩ ∧
      (s.chan 3).lookupWait = false ∧ Channel.FixedBy .a cornerTaking e (s.chan 3)) ∧
    (joinWords (imageWord otherImage 0) (imageWord otherImage 1) = 100001 ∧ correctedCode 1020 7 = 1023 ∧
      correctedCode 3 (-7) = 0) ∧
    (classify 0 false workedImage = .blank ∧ firstFuse (remainingSet .blank 0 workedImage) = some 15) ∧
    (classify cutImage false workedImage = .partialImage ∧
      firstFuse (remainingSet .partialImage cutImage workedImage) = some 80) ∧
    (classify workedImage true workedImage = .complete ∧ classify workedImage false workedImage = .complete ∧
      lockOption workedImage = true) ∧
    (classify otherImage false workedImage = .otherIdentity ∧
      (foreignRead 1).adoptable cornerTaking ((foreignRead 1).chan 3).readSoFar = true ∧
      (foreignRead 0).adoptable cornerTaking ((foreignRead 0).chan 3).readSoFar = false) ∧
    (classify unlockedImage false unlockedImage = .complete ∧ lockOption unlockedImage = false) ∧
    classify (workedImage ||| fuseBit 63) false workedImage = .conflict := by
  refine ⟨?_, ?_, ?_, by decide +kernel, by decide +kernel, by decide +kernel, by decide +kernel, by decide +kernel,
    by decide +kernel, by decide +kernel⟩
  · rintro s rfl; decide +kernel
  · rintro r s rfl; exact ⟨rfl, rfl, rfl, rfl, rfl, rfl, rfl, rfl, rfl⟩
  · rintro e h s rfl; exact ⟨rfl, rfl, rfl, rfl, fixing_fixed h .checking .lock false⟩

theorem witness_PulseEndIsCounted : ∀ st, st = ChanState.programming ∨ st = .locking →
    (∀ s, s = pulsing st .lock false → s.powered = true ∧ (s.chan 3).state = st ∧ (s.chan 3).measuring = false ∧
      (s.chan 3).ending = none ∧ (s.chan 3).burning = some .a ∧ ((s.chan 3).slot .a).taking = some cornerTaking) ∧
    ∀ e ∈ [Ending.aborted, .powerWarning, .partStopped], ∀ s, s = fixing e (pulsing st .lock false) →
      s.powered = true ∧ (s.chan 3).state = st ∧ (s.chan 3).measuring = false ∧
      Channel.FixedBy .a cornerTaking e (s.chan 3) := by
  rintro st -
  refine ⟨?_, ?_⟩
  · rintro s rfl; exact ⟨rfl, rfl, rfl, rfl, rfl, rfl⟩
  · rintro e h s rfl; exact ⟨rfl, rfl, rfl, fixing_fixed h st .lock false⟩

/-- Channel 3 measures a fuse after its sixth pulse. -/
def lastPulse (st : ChanState) (f : Fuse) (n : Nat) : State :=
  (pulsing st f true).modChan 3 fun c => { c with curPulses := n }

theorem witness_FuseMeasurementDecides :
    (∀ p ∈ [(ChanState.programming, Fuse.array 15), (.programming, .array 351), (.locking, .lock)], ∀ n ∈ [5, 6],
      ∀ s, s = lastPulse p.1 p.2 n → s.powered = true ∧ (s.chan 3).state = p.1 ∧ (s.chan 3).measuring = true ∧
      (s.chan 3).ending = none ∧ (s.chan 3).curFuse = some p.2 ∧ (s.chan 3).snapshot = some ⟨defaultProfile, 0⟩ ∧
      (s.chan 3).burning = some .a ∧ ((s.chan 3).slot .a).taking = some cornerTaking ∧ (s.chan 3).curPulses = n) ∧
    (defaultProfile.tp ≤ correctedCode 700 0 ∧ correctedCode 699 0 < defaultProfile.tp ∧ 5 < defaultProfile.pmax ∧
      defaultProfile.pmax ≤ 6) ∧
    (firstFuse (workedImage &&& ~~~fuseBit 15) = some 18 ∧ firstFuse (fuseBit 351 &&& ~~~fuseBit 351) = none) ∧
    ∀ st f, ∀ e ∈ [Ending.aborted, .powerWarning, .partStopped], ∀ s, s = fixing e (pulsing st f true) →
      s.powered = true ∧ (s.chan 3).state = st ∧ (s.chan 3).measuring = true ∧ (s.chan 3).curFuse = some f ∧
      (s.chan 3).snapshot = some ⟨defaultProfile, 0⟩ ∧ Channel.FixedBy .a cornerTaking e (s.chan 3) := by
  refine ⟨?_, by decide, by decide +kernel, ?_⟩
  · intro p hp n hn s hs
    subst hs
    revert p n
    decide +kernel
  · rintro st f e h s rfl; exact ⟨rfl, rfl, rfl, rfl, rfl, fixing_fixed h st f true⟩

theorem witness_FinalVerifyDecides :
    (∀ n ∈ [350, 351], ∀ s, s = reading .verifying n (workedImage &&& ~~~fuseBit 351) →
      s.powered = true ∧ (s.chan 3).state = .verifying ∧ (s.chan 3).ending = none ∧
      (s.chan 3).snapshot = some ⟨defaultProfile, 0⟩ ∧ (s.chan 3).burning = some .a ∧
      ((s.chan 3).slot .a).taking = some cornerTaking ∧ ((s.chan 3).slot .a).image = some workedImage ∧
      (s.chan 3).measured = n) ∧
    (workedImage = (if defaultProfile.tr ≤ correctedCode 600 0 then workedImage &&& ~~~fuseBit 351 ||| fuseBit 351
      else workedImage &&& ~~~fuseBit 351) ∧ lockOption workedImage = true) ∧
    (∃ n : Fin 352, fuse (workedImage ||| fuseBit 63) n = true ∧ fuse workedImage n = false) ∧
    (¬(∃ n : Fin 352, fuse (workedImage &&& ~~~fuseBit 351) n = true ∧ fuse workedImage n = false) ∧
      workedImage &&& ~~~fuseBit 351 ≠ workedImage) ∧
    lockOption unlockedImage = false ∧
    ∀ e ∈ [Ending.aborted, .powerWarning, .partStopped], ∀ s, s = fixing e (pulsing .verifying .lock false) →
      s.powered = true ∧ (s.chan 3).state = .verifying ∧ (s.chan 3).snapshot = some ⟨defaultProfile, 0⟩ ∧
      Channel.FixedBy .a cornerTaking e (s.chan 3) := by
  refine ⟨?_, by decide +kernel, ⟨63, by decide +kernel⟩, ⟨by decide +kernel, by decide +kernel⟩, by decide +kernel, ?_⟩
  · intro n hn s hs
    subst hs
    revert n
    decide +kernel
  · rintro e h s rfl; exact ⟨rfl, rfl, rfl, fixing_fixed h .verifying .lock false⟩

/-- Channel 3 calibrates, with these codes taken. -/
def calibrating (cs : List (BitVec 10)) : State :=
  base.modChan 3 fun c => { c with state := .calibrating, calRun := some ⟨cs, 0x27⟩ }

theorem witness_CalibrationSetsTheOffset :
    (∀ cs, ∀ s, s = calibrating cs → s.powered = true ∧ (s.chan 3).state = .calibrating ∧ s.sup.lane = none ∧
      s.lc.load = none ∧ (s.site 3).burn = none ∧ (s.chan 3).calRun = some ⟨cs, 0x27⟩) ∧
    ([512, 512] : List (BitVec 10)).length < 3 ∧
    (∀ e ∈ [(463 : BitVec 10), 464, 504, 505, 512, 519, 520, 560, 561],
      (e.toNat + e.toNat + e.toNat + e.toNat + 2) / 4 = e.toNat) ∧
    (∀ d ∈ [-7, 0, 7], (-7 : Int) ≤ d ∧ d ≤ 7) ∧
    (∀ d ∈ [8, 48, -8, -48], (7 : Int) < d ∧ d ≤ 48 ∨ -48 ≤ d ∧ d < -7) ∧
    (∀ d ∈ [49, -49], (48 : Int) < d ∨ d < -48) ∧
    (asked 0x27 (.calibrate 3) (calibrating [512, 512, 512])).sup.lane = some ⟨0x27, 9, .calibrate 3⟩ ∧
    (∀ ctx, ∀ s, s = asked 0x23 .loadWafer ((calibrating [512, 512, 512]).withLc { base.lc with load := some ctx }) →
      s.lc.load = some ctx ∧ s.resetWaiting = false ∧ s.sup.lane = some ⟨0x23, 9, .loadWafer⟩) ∧
    (∀ ctx, ctx = (⟨false, true, (Four.all .notRunHalted).set 3 .awaited⟩ : LoadCtx) → ctx.cal.get 3 = .awaited ∧
      ctx.journalDone = true ∧ (∀ j, (ctx.cal.set 3 (.ran .calibrated)).get j ≠ .awaited) ∧
      (ctx.cal.set 0 .awaited |>.set 3 (.ran .calibrated)).get 0 = .awaited) ∧
    ∀ su ∈ [(⟨LinkIo.reset, none⟩ : SupLink), ⟨LinkIo.reset, some ⟨0x27, 9, .calibrate 3⟩⟩], ∀ s,
      s = ((calibrating [512, 512, 512]).withSup su).modSite 3 (fun x => { x with burn := some ⟨0x41, corner, true⟩ }) →
      s.sup = su ∧ (s.site 3).burn = some ⟨0x41, corner, true⟩ ∧ ∀ v, v = { s with
        sup := { su with lane := none }
        chans := s.chans.set 3 { s.chan 3 with
          state := .idle, calResult := some .calibrated, calReadings := some ⟨[512, 512, 512, 512], 512, 0⟩
          calRun := none }
        sites := s.sites.set 3 { s.site 3 with burn := none } } → v.SiteReady 3 ∧ v.Admits corner := by
  refine ⟨?_, by decide, by decide, by decide, by decide, by decide, by decide, ?_, ?_, ?_⟩
  · rintro cs s rfl; exact ⟨rfl, rfl, rfl, rfl, rfl, rfl⟩
  · rintro ctx s rfl; exact ⟨rfl, rfl, rfl⟩
  · rintro ctx rfl; decide
  · rintro su _ s rfl
    refine ⟨rfl, rfl, ?_⟩
    rintro v rfl
    exact ⟨siteReady_of ⟨rfl, rfl, rfl, rfl⟩, admits_of base_admits⟩

/-- A slot derivation of 3A is in progress, its channel in a state. -/
def delivering (st : ChanState) (discard : Bool) : State :=
  ((slotIn .deriving none base).modChan 3 fun c => { c with state := st, burning := some .a }).withDu
    ⟨[], some ⟨.slot 3 .a 76352 corner 0x5C13, 1, discard⟩, 0⟩

theorem witness_DerivationsAreDelivered :
    (∀ st q, ∀ s, s = (delivering st false).withDu { (delivering st false).du with queue := q } → s.powered = true ∧
      s.du.current = some ⟨.slot 3 .a 76352 corner 0x5C13, 1, false⟩ ∧ s.du.queue = q ∧
      ((s.chan 3).slot .a).state = .deriving ∧ (s.chan 3).state = st ∧ (s.chan 3).burning = some .a) ∧
    (((delivering .waiting false).modChan 3 fun c => { c with burning := some .b }).chan 3).burning ≠ some .a ∧
    ((delivering .idle true).powered = true ∧
      (delivering .idle true).du.current = some ⟨.slot 3 .a 76352 corner 0x5C13, 1, true⟩) ∧
    ∀ s, s = (derives (.adopt 3 76352 ⟨37, 82⟩ 0x5C13) ((burning .adoptWait).modChan 3 fun c => { c with
        readImage := some workedImage })) →
      s.powered = true ∧ s.du.current = some ⟨.adopt 3 76352 ⟨37, 82⟩ 0x5C13, 1, false⟩ ∧
      (s.chan 3).state = .adoptWait ∧ (s.chan 3).readImage = some workedImage ∧ (s.chan 3).burning = some .a ∧
      ((s.chan 3).slot .a).taking = some cornerTaking := by
  refine ⟨?_, by decide +kernel, by decide +kernel, ?_⟩
  · rintro st q s rfl; exact ⟨rfl, rfl, rfl, rfl, rfl, rfl⟩
  · rintro s rfl; decide +kernel

theorem witness_OpenLotBegins :
    (base.SupReady ∧ base.lc.lotState ≠ .empty ∧ base.lc.lotState ≠ .closed) ∧
    (State.reset.SupReady ∧ State.reset.lc.lotState = .empty ∧ State.reset.du.current = none ∧
      State.reset.du.queue = []) ∧
    (1048560 < (1048561 : BitVec 32).toNat ∧ 4294967296 < (4294967295 : BitVec 32).toNat + (2 : BitVec 32).toNat ∧
      0x8203 &&& 0x0F00 ≠ (0x0100 : Word) ∧ 0x8110 &&& 0x70F0 ≠ (0 : Word)) ∧
    ((0x5C13 : Word) ≠ 0 ∧ (4294967295 : BitVec 32) ≠ 0 ∧ (1 : BitVec 32) ≠ 0 ∧ (1 : BitVec 32).toNat ≤ 1048560 ∧
      (4294967295 : BitVec 32).toNat + (1 : BitVec 32).toNat ≤ 4294967296 ∧ 0x8103 &&& 0x0F00 = (0x0100 : Word) ∧
      0x8103 &&& 0x70F0 = (0 : Word)) ∧
    ∀ s, s = fingerprinting (base.withLc { base.lc with lotState := .opening }) →
      s.powered = true ∧ s.lc.lotState = .opening ∧ s.du.current = some ⟨.fingerprint 0x5C13, 1, false⟩ ∧
      s.du.queue = [] ∧ s.js.queue = [] ∧ s.js.write = none ∧ s.js.held = false ∧ s.js.stopped = false := by
  refine ⟨⟨supReady_of (by decide), by decide, by decide⟩, ⟨supReady_of (by decide), by decide, by decide, by decide⟩,
    by decide, by decide, ?_⟩
  rintro s rfl; decide

/-- A lot in another state. -/
def lotIn (st : LotState) : State := base.withLc { base.lc with lotState := st }

theorem witness_ResumeLotProvesTheSecret :
    ((lotIn .suspended).SupReady ∧ (lotIn .suspended).lc.lotState = .suspended ∧ (lotIn .suspended).du.current = none ∧
      (lotIn .suspended).du.queue = [] ∧ (0x5C14 : Word) ≠ (lotIn .suspended).lc.header.lotTag) ∧
    (∀ st, (lotIn st).SupReady ∧ (lotIn st).lc.lotState = st) ∧
    ∀ a b, ∀ s, s = fingerprinting ((base.withLc { base.lc with
        lotState := .resuming, header := { base.lc.header with fp1 := a, fp2 := b } }).withSup
        ⟨LinkIo.reset, some ⟨0x21, 1, .plain⟩⟩) →
      s.powered = true ∧ s.lc.lotState = .resuming ∧ s.sup.lane = some ⟨0x21, 1, .plain⟩ ∧
      s.du.current = some ⟨.fingerprint 0x5C13, 1, false⟩ ∧ s.du.queue = [] ∧ s.lc.header.fp1 = a ∧
      s.lc.header.fp2 = b := by
  refine ⟨⟨supReady_of (by decide), by decide, by decide, by decide, by decide⟩,
    fun st => ⟨supReady_of ⟨rfl, rfl, rfl, rfl⟩, rfl⟩, ?_⟩
  rintro a b s rfl
  exact ⟨rfl, rfl, rfl, rfl, rfl, rfl, rfl⟩

theorem witness_CloseLotBegins :
    (∀ st wf e, ∀ s, s = writing e 1 .erase ((lotIn st).withLc { (lotIn st).lc with wafer := wf }) → s.SupReady ∧
      s.lc.lotState = st ∧ s.lc.wafer = wf ∧ s.js.write = some ⟨e, 1, false, .erase, 0⟩) ∧
    ∀ s, s = (blocked ⟨some ⟨9, 16⟩, .ready 16 32⟩ (lotIn .isOpen)).withJs
        { base.js with held := true, queue := [.rideThrough 1, .wafer 7] } →
      s.SupReady ∧ (∀ k, JEntry.advance k ∉ s.js.queue ∧ ∀ w, s.js.write = some w → w.entry ≠ .advance k) ∧
      ∃ left : Site → Nat, (∀ k, left k = (match (s.sa.blocks.get k).current with
          | some c => c.stop - c.next
          | none => 0) + match (s.sa.blocks.get k).next with
          | .ready start stop => stop - start
          | .absent | .pending => 0) ∧ left 3 = 23 := by
  constructor
  · rintro st wf e s rfl; exact ⟨supReady_of ⟨rfl, rfl, rfl, rfl⟩, rfl, rfl, rfl⟩
  · rintro s rfl
    exact ⟨supReady_of (by decide), fun k => ⟨by revert k; decide, nofun⟩, ⟨_, fun _ => rfl, rfl⟩⟩

theorem witness_LoadWaferBegins :
    (∀ st wf, ∀ s, s = base.withLc { base.lc with lotState := st, wafer := wf } → s.SupReady ∧ s.lc.lotState = st ∧
      s.lc.wafer = wf) ∧
    (256 ≤ (256 : Word).toNat ∧ 129 ≤ (129 : Word).toNat ∧ (255 : Word) ≠ 0 ∧ (255 : Word).toNat ≤ 255 ∧
      (128 : Word) ≠ 0 ∧ (128 : Word).toNat ≤ 128) ∧
    ∀ j, ∀ s, s = (base.withLc { base.lc with wafer := .none }).withJs j → s.SupReady ∧ s.lc.lotState = .isOpen ∧
      s.lc.wafer = .none ∧ s.port = [] ∧ s.js = j ∧ (s.site 3).enabled = true ∧ (s.chan 3).state = .idle := by
  refine ⟨?_, by decide, ?_⟩
  · rintro st wf s rfl; exact ⟨supReady_of ⟨rfl, rfl, rfl, rfl⟩, rfl, rfl⟩
  · rintro j s rfl; exact ⟨supReady_of ⟨rfl, rfl, rfl, rfl⟩, rfl, rfl, rfl, rfl, rfl, rfl⟩

theorem witness_CloseWaferSweeps :
    (∀ st wf, ∀ s, s = base.withLc { base.lc with lotState := st, wafer := wf } → s.SupReady ∧ s.lc.lotState = st ∧
      s.lc.wafer = wf) ∧
    (∀ st, (burning st).SupReady ∧ (burning st).lc.lotState = .isOpen ∧ (burning st).lc.wafer = .active ∧
      ((burning st).chan 3).state = st) ∧
    (((preparing .lookup base).site 3).cmd ≠ none ∧
      ((base.modSite 3 fun x => { x with burn := some ⟨0x41, corner, true⟩ }).site 3).burn = some ⟨0x41, corner, true⟩) ∧
    ∀ s, s = derives (.slot 3 .a 76352 corner 0x5C13) (slotIn .deriving none
      (held (some .a) base)) →
    s.SupReady ∧ s.lc.lotState = .isOpen ∧ s.lc.wafer = .active ∧
    (∀ k, (s.chan k).state ∉ [ChanState.waiting, .qualifying, .checking, .adoptWait, .programming, .verifying, .locking] ∧
      (s.site k).cmd = none ∧ ∀ b, (s.site k).burn = some b → b.waitsCal = false) ∧ s.port = [] ∧
    ((s.chan 3).slot .a).state ≠ .empty ∧ ((s.chan 3).slot .b).state = .empty ∧
    ∃ out : DEntry → Bool, ∀ e, out e = true ↔ ∃ k l, DEntry.isSlot k l e = true ∧ ((s.chan k).slot l).state ≠ .empty := by
  refine ⟨?_, fun st => ⟨supReady_of ⟨rfl, rfl, rfl, rfl⟩, rfl, rfl, rfl⟩, by decide, ?_⟩
  · rintro st wf s rfl; exact ⟨supReady_of ⟨rfl, rfl, rfl, rfl⟩, rfl, rfl⟩
  · rintro s rfl
    refine ⟨supReady_of (by decide +kernel), by decide +kernel, by decide +kernel, fun k => ?_, by decide +kernel,
      by decide +kernel, by decide +kernel, decides _⟩
    match k with
    | 0 | 1 | 2 | 3 => exact ⟨by decide +kernel, by decide +kernel, nofun⟩

theorem witness_SetProfileStores : base.SupReady ∧
    (∃ q, q = clampProfile ⟨40, 30, 12, 6, 700, 720, 20, 50⟩ ∧
      ∃ b, b = clampedBits (sentFields ⟨40, 30, 12, 6, 700, 720, 20, 50⟩) q.fields) ∧
    (Profile.mk 2 128 8 8 256 288 255 200).InRange :=
  ⟨supReady_of (by decide), ⟨_, rfl, _, rfl⟩, by constructor <;> decide⟩

theorem witness_SetProfileDefaultStores :
    (base.powered = true ∧ base.full .supervisor = false ∧ base.fu.partStopped = false ∧ base.sup.lane = none) ∧
    ∀ s, s = base.withFu { base.fu with partStopped := true } →
      s.powered = true ∧ s.full .supervisor = false ∧ s.fu.partStopped = true := by
  refine ⟨by decide, ?_⟩
  rintro s rfl; decide

theorem witness_CalibrateActsByState :
    (∀ st, ∀ s, s = base.modChan 3 (fun c => { c with state := st }) →
      s.SupReady ∧ (s.site 3).enabled = true ∧ (s.chan 3).state = st) ∧ 4 ≤ (4 : Word).toNat ∧
    ∀ s, s = base.modSite 3 (fun x => { x with enabled := false }) → s.SupReady ∧ (s.site 3).enabled = false := by
  refine ⟨?_, by decide, ?_⟩
  · rintro st s rfl; exact ⟨supReady_of ⟨rfl, rfl, rfl, rfl⟩, rfl, rfl⟩
  · rintro s rfl; exact ⟨supReady_of (by decide), by decide⟩

/-- The corner's record twice, page 0 marked. -/
def twoRecords : State :=
  base.withDrt { (held none base).drt with
    records := List.replicate 2 (cornerRecord .reserved none (some 76352))
    marks := (Vector.replicate 128 false).set 0 true }

theorem witness_SitesAreEnabledAndDisabled :
    (base.SupReady ∧ (base.site 3).cmd = none ∧ (base.site 3).burn = none ∧ (base.chan 3).slotA = Slot.reset ∧
      (base.chan 3).slotB = Slot.reset) ∧
    ((burnLane base).SupReady ∧ ((burnLane base).site 3).burn ≠ none) ∧ 4 ≤ (4 : Word).toNat ∧
    (∀ e ∈ [({ access := .ending, site := 3, moment := 0 } : PortEntry), ⟨.lookup, 0, 0⟩],
      e.moment = base.now ∧ ¬(e.site = 3 ∧ e.access.byChannel = false)) ∧
    (∀ s u, s = twoRecords.modChan 3 (fun c => { c with
        slotA := ⟨.staged, some cornerTaking, some workedImage, false⟩
        slotB := ⟨.deriving, some ⟨1, ⟨0, 0⟩, 76353⟩, none, false⟩ }) → u = (asked 0x29 .plain s).drainFor 3 false →
      s.SupReady ∧ (s.site 3).cmd = none ∧ (s.site 3).burn = none ∧ (∀ l, ((s.chan 3).slot l).state ≠ .empty) ∧
      (u.chan 3).slotA.taking = some cornerTaking ∧ (u.chan 3).slotB.taking = some ⟨1, ⟨0, 0⟩, 76353⟩ ∧
      u.drt.records[0]? = some (cornerRecord .reserved none (some 76352)) ∧
      u.drt.records[1]? = some (cornerRecord .reserved none (some 76352))) ∧
    ∀ l, ∀ p ∈ [[], [({ access := .clearing 5, site := 2, moment := 7 } : PortEntry)]], ∀ s v u,
      s = ((held (some l) base).modChan 3 fun c => c.setSlot l ⟨.staged, some cornerTaking, some workedImage, false⟩).withPort
        p → v = asked 0x29 .plain s → u = v.drainFor 3 false →
      s.SupReady ∧ (s.site 3).cmd = none ∧ (s.site 3).burn = none ∧ ((s.chan 3).slot l).state = .staged ∧
      (∀ m, m ≠ l → ((s.chan 3).slot m).state = .empty) ∧ u.port = [] ∧
      ((u.chan 3).slot l).taking = some cornerTaking ∧ (∀ m, m ≠ l → ((u.chan 3).slot m).taking = none) ∧
      u.drt.records[cornerTaking.idx]? = some (cornerRecord .reserved (some ⟨3, some l⟩) (some 76352)) := by
  refine ⟨⟨supReady_of (by decide), by decide⟩, ⟨supReady_of (by decide), by decide⟩, by decide, by decide, ?_, ?_⟩
  · rintro s u rfl rfl
    exact ⟨supReady_of ⟨rfl, rfl, rfl, rfl⟩, rfl, rfl, fun l => by cases l <;> exact nofun, rfl, rfl, rfl, rfl⟩
  intro l p hp s v u hs hv hu
  subst hs hv hu
  refine ⟨supReady_of ⟨by cases l <;> rfl, by cases l <;> rfl, by cases l <;> rfl, by cases l <;> rfl⟩, ?_⟩
  revert p
  cases l
  all_goals
    intro p hp
    refine ⟨rfl, rfl, rfl, fun m hm => by cases m <;> first | rfl | exact absurd rfl hm, ?_⟩
    refine ⟨?_, ?_, fun m hm => ?_, ?_⟩
    · revert p; decide +kernel
    · revert p; decide +kernel
    · cases m
      all_goals first
        | exact absurd rfl hm
        | (revert p; decide +kernel)
    · revert p; decide +kernel

theorem witness_ResetSiteClearsTheSite :
    ((base.site 3).cmd = none ∧ (base.site 3).burn = none ∧ base.SupReady ∧ 4 ≤ (4 : Word).toNat ∧
      (∀ s : State, ∃ n c su, n = (s.site 3).cmd.toList.length + (s.site 3).burn.toList.length + (s.site 3).aborts.length ∧
        c = { s.chan 3 with
          calDeferred := false
          calRun := none
          state := if (s.chan 3).state = ChanState.calibrating then ChanState.uncalibrated else (s.chan 3).state } ∧
        su = { s.sup with lane := some ⟨0x2A, 9, .resetSite 3 n (s.chan 3).state⟩ })) ∧
    (∀ ph, ∀ s, s = preparing ph (calibrating [512]) → s.SupReady ∧ (s.site 3).burn = none ∧ (s.site 3).aborts = [] ∧
      (s.site 3).cmd = some ⟨0x40, corner, ph, false⟩ ∧ (s.chan 3).state = .calibrating) ∧
    (∀ ph, ∀ s, s = (preparing ph (burning .verifying)).modSite 3 (fun x => { x with aborts := [⟨0x44, true, true⟩] }) →
      s.SupReady ∧ (s.site 3).cmd = some ⟨0x40, corner, ph, false⟩ ∧ (s.site 3).burn = some ⟨0x41, corner, false⟩ ∧
      (s.chan 3).runsOut = true ∧ ∀ a ∈ (s.site 3).aborts, a.waitsBurn = true) ∧
    (∀ s, s = base.modSite 3 (fun x => { x with burn := some ⟨0x41, corner, true⟩ }) → s.SupReady ∧
      (s.site 3).cmd = none ∧ (s.site 3).aborts = [] ∧ (s.site 3).burn = some ⟨0x41, corner, true⟩) ∧
    (∀ st, ∀ s, s = burning st → s.SupReady ∧ (s.site 3).burn = some ⟨0x41, corner, false⟩ ∧ (s.site 3).cmd = none ∧
      (s.site 3).aborts = [] ∧ (s.chan 3).burning = some .a ∧ ((s.chan 3).slot .a).taking = some cornerTaking ∧
      (s.chan 3).state = st ∧ s.drt.records[0]? = some (cornerRecord .burning (some ⟨3, some .a⟩) (some 76352))) ∧
    (((burning .adoptWait).chan 3).endsAtOnce = true ∧ ((burning .checking).chan 3).runsOut = true) ∧
    (∀ s, s = asked 0x2A (.resetSite 3 1 .idle) ((abortedLookup ⟨none, .absent⟩).modSite 3 fun sl => { sl with
        aborts := [] }) →
      s.powered = true ∧ s.fu.partStopped = false ∧ (s.site 3).cmd = some ⟨0x40, corner, .lookup, true⟩ ∧
      (s.site 3).aborts = [] ∧ s.sup.lane = some ⟨0x2A, 9, .resetSite 3 1 .idle⟩ ∧
      s.port = { access := .lookup, site := 3, moment := 0 } :: [] ∧ s.drt.lookup corner = none ∧
      s.drt.records.length < 8192 ∧ (s.chan 3).freeSlot ≠ none ∧ (s.draw 3).2 = .waits) ∧
    ∀ s, s = asked 0x2A (.resetSite 3 2 .idle) (slotIn .staged (some workedImage) (held (some .a) base)) →
      (s.site 3).cmd = none ∧ (s.site 3).burn = none ∧ s.powered = true ∧ s.port = [] ∧
      s.sup.lane = some ⟨0x2A, 9, .resetSite 3 2 .idle⟩ ∧ ((s.chan 3).slot .a).state ≠ .empty ∧
      ∃ out : DEntry → Bool, ∀ e, out e = true ↔ e.isAdopt 3 = true ∨
        ∃ l, DEntry.isSlot 3 l e = true ∧ ((s.chan 3).slot l).state ≠ .empty := by
  refine ⟨⟨by decide, by decide, supReady_of (by decide), by decide, fun s => ⟨_, _, _, rfl, rfl, rfl⟩⟩, ?_, ?_, ?_, ?_,
    by decide +kernel, ?_, ?_⟩
  · rintro ph s rfl; exact ⟨supReady_of ⟨rfl, rfl, rfl, rfl⟩, rfl, rfl, rfl, rfl⟩
  · rintro ph s rfl
    refine ⟨supReady_of ⟨rfl, rfl, rfl, rfl⟩, rfl, rfl, rfl, fun a h => ?_⟩
    cases List.mem_singleton.mp h; rfl
  · rintro s rfl; exact ⟨supReady_of (by decide), by decide⟩
  · rintro st s rfl; exact ⟨supReady_of ⟨rfl, rfl, rfl, rfl⟩, rfl, rfl, rfl, rfl, rfl, rfl, rfl⟩
  · rintro s rfl
    exact ⟨rfl, rfl, rfl, rfl, rfl, rfl, rfl, by decide, nofun, rfl⟩
  · rintro s rfl
    exact ⟨rfl, rfl, rfl, rfl, rfl, nofun, decides _⟩

theorem witness_WatchesAreSetAndCleared : base.SupReady ∧ corner.col.toNat ≤ 127 ∧ corner.row.toNat ≤ 127 ∧
    4 ≤ (4 : Word).toNat ∧ 2 ≤ (2 : Word).toNat ∧ hiWord 0x10000 ≠ 0 ∧ 127 < (hiByte (loWord 0x8000)).toNat ∧
    127 < (loByte (loWord 0x0080)).toNat := ⟨supReady_of (by decide), by decide⟩

theorem witness_HoldsAreReleased : (base.SupReady ∧ (base.site 3).cmd = none ∧ 4 ≤ (4 : Word).toNat) ∧
    (∀ ph ∈ [PrepPhase.lookup, .waitBlock 0, .binding 0 1, .slotTaking 0],
      ph ≠ .heldPosition ∧ ∀ i n, ph ≠ .heldSerial i n) ∧
    (∀ p ∈ [[], [({ access := .clearing 5, site := 2, moment := 7 } : PortEntry)]], ∀ s u,
      s = (preparing .heldPosition (held none base)).withPort p → u = (asked 0x2D .plain s).drainFor 3 false →
      s.sup.lane = none ∧ (s.site 3).cmd = some ⟨0x40, corner, .heldPosition, false⟩ ∧
      (u.site 3).cmd = some ⟨0x40, corner, .heldPosition, false⟩ ∧ u.drt.lookup corner = some 0 ∧
      0 < u.drt.records.length) ∧
    (∀ p ∈ [[], [({ access := .clearing 5, site := 2, moment := 7 } : PortEntry)]], ∀ s u,
      s = (preparing (.heldSerial 0 76352) (held none base)).withPort p → u = (asked 0x2D .plain s).drainFor 3 false →
      (s.site 3).cmd = some ⟨0x40, corner, .heldSerial 0 76352, false⟩ ∧
      (u.site 3).cmd = some ⟨0x40, corner, .heldSerial 0 76352, false⟩ ∧ (u.site 3).aborts = [] ∧
      u.drt.records[0]? = some (cornerRecord .reserved (some ⟨3, none⟩) (some 76352)) ∧
      (u.chan 3).slotA.state = .empty) ∧
    (∀ e ∈ [({ access := .ending, site := 3, moment := 0 } : PortEntry), ⟨.lookup, 0, 0⟩],
      e.moment = base.now ∧ ¬(e.site = 3 ∧ e.access.byChannel = false)) ∧
    ∀ u, u = slotIn .staged (some workedImage) base →
      SlotId.b = (if (u.chan 3).slotA.state = .empty then SlotId.a else .b) ∧ ((u.chan 3).slot .b).state = .empty := by
  refine ⟨⟨supReady_of (by decide), by decide⟩, ?_, ?_, ?_, by decide, ?_⟩
  · intro ph h
    simp only [List.mem_cons, List.not_mem_nil, or_false] at h
    rcases h with rfl | rfl | rfl | rfl <;> exact ⟨nofun, nofun⟩
  · intro p hp s u hs hu; subst hs hu; revert p; decide +kernel
  · intro p hp s u hs hu; subst hs hu; revert p; decide +kernel
  · rintro u rfl; decide +kernel

/-- `n` copies of the corner's record, page 0 marked. -/
def changed (n : Nat) : State :=
  base.withDrt { twoRecords.drt with records := List.replicate n (cornerRecord .reserved none (some 76352)) }

/-- A state in RUN or in part STOP. -/
def stopped (stop : Bool) (s : State) : State := s.withFu { s.fu with partStopped := stop }

theorem witness_RecordsAreCopied :
    ((∀ stop, ∀ s, s = stopped stop twoRecords → s.powered = true ∧ s.full .supervisor = false ∧ s.sup.lane = none ∧
        s.fu.partStopped = stop ∧ s.port = [] ∧ (1 : Word).toNat < s.drt.records.length ∧
        s.drt.records.length ≤ (2 : Word).toNat) ∧
      8191 < (8192 : Word).toNat ∧ 64 < (65 : Word).toNat ∧ (64 : Word).toNat ≤ 64) ∧
    ((waits .lookup twoRecords).port ≠ [] ∧ (waits .lookup twoRecords).sup.lane = none) ∧
    (∀ ws ∈ [[], (cornerRecord .reserved none (some 76352)).packed],
      ∀ s, s = asked 0x2E (.readRecords (2 - ws.length / 8) 1 ws) twoRecords → s.powered = true ∧ s.port = [] ∧
        s.sup.lane = some ⟨0x2E, 9, .readRecords (2 - ws.length / 8) 1 ws⟩ ∧
        s.drt.records.length ≤ (2 - ws.length / 8) + ws.length / 8) ∧
    (∀ p ∈ [(2, []), (1, []), (2, (cornerRecord .reserved none (some 76352)).packed)],
      ∀ s, s = asked 0x2E (.readRecords 0 p.1 p.2) twoRecords → s.powered = true ∧
        s.sup.lane = some ⟨0x2E, 9, .readRecords 0 p.1 p.2⟩ ∧
        s.drt.records[0 + p.2.length / 8]? = some (cornerRecord .reserved none (some 76352)) ∧ s.port = []) ∧
    (waits .lookup (asked 0x2E (.readRecords 0 2 []) twoRecords)).port ≠ [] ∧
    (∀ stop, ∀ s, s = stopped stop base → s.powered = true ∧ s.full .supervisor = false ∧ s.sup.lane = none ∧
      ∀ p : Nat, p < 128 → s.drt.marks[p]? = some false) ∧ twoRecords.drt.marks[0]? = some true ∧
    (∀ r, r = { cornerRecord .void (some ⟨3, none⟩) none with
        attempts := 3, bits := 353, pulses := 65535, lastOutcome := some .reset } →
      r.attempts ≤ 3 ∧ r.bits ≤ 353 ∧ r.pulses ≤ 65535 ∧ r.pos.col.toNat ≤ 127 ∧ r.pos.row.toNat ≤ 127 ∧
      r.packed[5]? = some 0x615C) ∧
    (∀ n ∈ [1, 2], ∀ s, s = asked 0x2F (.readChanged none []) (changed n) → s.powered = true ∧ s.port = [] ∧
      s.sup.lane = some ⟨0x2F, 9, .readChanged none []⟩ ∧ s.drt.marks[0]? = some true ∧
      s.drt.records[64 * 0]? = some (cornerRecord .reserved none (some 76352)) ∧ s.drt.records.length = n) ∧
    ∀ p ∈ [(8, 66), (8, 65), (504, 200)], ∀ s,
      s = asked 0x2F (.readChanged (some 0) (List.replicate p.1 1)) (changed p.2) → s.powered = true ∧ s.port = [] ∧
        s.sup.lane = some ⟨0x2F, 9, .readChanged (some 0) (List.replicate p.1 1)⟩ ∧
        s.drt.records[64 * 0 + (List.replicate p.1 (1 : Word)).length / 8]? =
          some (cornerRecord .reserved none (some 76352)) := by
  refine ⟨⟨?_, by decide⟩, by decide +kernel, ?_, ?_, by decide +kernel, ?_, by decide +kernel, ?_, ?_, ?_⟩
  · rintro stop s rfl; exact ⟨rfl, rfl, rfl, rfl, rfl, show 1 < twoRecords.drt.records.length by decide, Nat.le_refl 2⟩
  · intro ws hws s hs; subst hs; revert ws; decide +kernel
  · intro p hp s hs; subst hs; revert p; decide +kernel
  · rintro stop s rfl; exact ⟨rfl, rfl, rfl, show ∀ p : Nat, p < 128 → base.drt.marks[p]? = some false by decide +kernel⟩
  · rintro r rfl; decide +kernel
  · intro p hp s hs; subst hs; revert p; decide +kernel
  · intro p hp s hs; subst hs; revert p; decide +kernel

theorem witness_SummaryIsAnswered : ∀ stop, ∀ s ∈ [twoRecords, waits .lookup twoRecords], ∀ t, t = stopped stop s →
    t.powered = true ∧ t.full .supervisor = false ∧ t.sup.lane = none ∧ t.fu.partStopped = stop ∧
    (t.port = [] ↔ s = twoRecords) := by
  intro stop s hs t ht
  subst ht
  simp only [List.mem_cons, List.not_mem_nil, or_false] at hs
  rcases hs with rfl | rfl
  · exact ⟨rfl, rfl, rfl, rfl, fun _ => rfl, fun _ => rfl⟩
  · exact ⟨rfl, rfl, rfl, rfl, nofun, fun h => absurd h (by decide +kernel)⟩

theorem witness_FaultsAreReadAndCleared : ∀ stop, ∀ s, s = stopped stop (base.report 71 none none 0) →
    s.powered = true ∧ s.full .supervisor = false ∧ s.sup.lane = none ∧ s.fu.partStopped = stop ∧
    (s.fu.first, 4) ∈ [(s.fu.first, 4), (s.fu.last, 10)] ∧ s.fu.first = some ⟨71, none, none, 0, 0⟩ ∧
    (∀ u, u = base.report 51 (some 3) (some corner) 0x03 → (u.fu.last, 10) ∈ [(u.fu.first, 4), (u.fu.last, 10)] ∧
      u.fu.last = some ⟨51, some 3, some corner, 0x03, 0⟩) ∧ base.fu.first = none := by
  rintro stop s rfl
  refine ⟨rfl, rfl, rfl, rfl, List.mem_cons_self, rfl, ?_, rfl⟩
  rintro u rfl; decide

theorem witness_AlertsFollowFlagsAndMask : (base.powered = true ∧ base.full .supervisor = false ∧
    base.sup.lane = none ∧ ∃ f : AlertFlags, f = ⟨base.fu.flags.fault && !(1 : Word).getLsbD 0,
      base.fu.flags.watch && !(1 : Word).getLsbD 1, base.fu.flags.exhausted && !(1 : Word).getLsbD 2,
      base.fu.flags.power && !(1 : Word).getLsbD 3⟩) ∧ base.SupReady :=
  ⟨⟨by decide, by decide, by decide, _, rfl⟩, supReady_of (by decide)⟩

theorem witness_JournalTriesEnd :
    (∀ e x second reset, ∀ s, s = { base with
        js := { base.js with write := some ⟨e, x, second, .readBack, 0⟩ }, resetWaiting := reset } →
      s.powered = true ∧ s.js.write = some ⟨e, x, second, .readBack, 0⟩ ∧ JPhase.readBack ≠ .finalErase ∧
      s.resetWaiting = reset ∧ (s.site 3).cmd = none ∧ s.fu.partStopped = false) ∧
    ((0 : Word) ≠ wordOf (0 + 1) ∧ wordOf (65534 + 1) = 65535) ∧
    ((asked 0x20 .plain base).sup.lane = some ⟨0x20, 9, .plain⟩ ∧
      (asked 0x22 .plain base).sup.lane = some ⟨0x22, 9, .plain⟩) ∧
    (∀ ctx, ∀ s, s = asked 0x23 .loadWafer (base.withLc { base.lc with wafer := .loading, load := some ctx }) →
      s.lc.load = some ctx ∧ s.sup.lane = some ⟨0x23, 9, .loadWafer⟩) ∧
    ((Four.all CalReport.notRunHalted).set 3 .awaited).get 3 = .awaited ∧ (∀ k, (Four.all CalReport.notRunHalted).get k ≠ .awaited) ∧
    ((∃ c ∈ ((blocked ⟨some ⟨5, 6⟩, .pending⟩ base).sa.blocks.get 3).current, c.next < c.stop) ∧
      ¬∃ c ∈ ((blocked ⟨none, .pending⟩ base).sa.blocks.get 3).current, c.next < c.stop) ∧
    ∀ s u, s = preparing (.waitBlock 0) (blocked ⟨none, .pending⟩ base) →
      u = blocked ⟨some ⟨100001, 100017⟩, .absent⟩ { s with sa := { s.sa with mark := 1 } } →
      (s.site 3).cmd = some ⟨0x40, corner, .waitBlock 0, false⟩ ∧ s.fu.partStopped = false ∧
      (u.draw 3).2 = .drawn 100001 := by
  refine ⟨?_, by decide, by decide, ?_, by decide, by decide, ⟨⟨_, rfl, by decide⟩, nofun⟩, ?_⟩
  · rintro e x second reset s rfl; exact ⟨rfl, rfl, nofun, rfl, rfl, rfl⟩
  · rintro ctx s rfl; exact ⟨rfl, rfl⟩
  · rintro s u rfl rfl; exact ⟨rfl, rfl, rfl⟩

/-- The failing write of site 2's advance, with a burn of each kind and PREPAREs that wait and do not. -/
def stopping (st : LotState) (wf : WaferState) : State :=
  { writing (.advance 2) 7 .finalErase (asked 0x21 .plain (burning .idle)) with
    chans := ⟨(burning .adoptWait).chan 3, (pulsing .programming .lock true).chan 3, (burning .qualifying).chan 3,
      (calibrating []).chan 3⟩
    sites := ⟨{ SiteLink.reset with cmd := some ⟨1, corner, .waitBlock 0, false⟩, burn := some ⟨2, corner, false⟩ },
      { SiteLink.reset with cmd := some ⟨3, corner, .lookup, false⟩, burn := some ⟨2, corner, false⟩ },
      { SiteLink.reset with burn := some ⟨2, corner, false⟩ },
      { SiteLink.reset with burn := some ⟨8, corner, true⟩ }⟩
    lc := { base.lc with lotState := st, wafer := wf } }

theorem witness_FailedWriteStopsThePart :
    (∀ st wf sites, ∀ s, s = { stopping st wf with sites := sites } → s.powered = true ∧
      s.js.write = some ⟨.advance 2, 7, false, .finalErase, 0⟩ ∧ (JEntry.advance 2).word < 32 ∧ s.resetWaiting = false ∧
      s.lc.lotState = st ∧ s.lc.wafer = wf ∧ s.sup.lane = some ⟨0x21, 9, .plain⟩) ∧
    (∀ s, s = stopping .resuming .active → (∀ k, (s.site k).aborts = []) ∧
      (s.site 0).cmd = some ⟨1, corner, .waitBlock 0, false⟩ ∧ (s.site 1).cmd = some ⟨3, corner, .lookup, false⟩ ∧
      (∀ k : Site, k ≠ 3 → (s.site k).burn = some ⟨2, corner, false⟩ ∧ (s.chan k).burning = some .a ∧
        ((s.chan k).slot .a).taking = some cornerTaking) ∧
      (s.site 3).burn = some ⟨8, corner, true⟩ ∧ (s.chan 0).endsAtOnce = true ∧ (s.chan 1).runsOut = true ∧
      (s.chan 2).state = .qualifying ∧
      s.drt.records[0]? = some (cornerRecord .burning (some ⟨3, some .a⟩) (some 76352))) ∧
    (∀ k, (base.site k).burn = none ∧ (base.site k).cmd = none) ∧
    ∀ s, s = (stopping .closing .none).withResetWaiting true → s.powered = true ∧
      s.js.write = some ⟨.advance 2, 7, false, .finalErase, 0⟩ ∧ s.resetWaiting = true := by
  refine ⟨?_, ?_, by decide, by rintro s rfl; exact ⟨rfl, rfl, rfl⟩⟩
  · rintro st wf sites s rfl; exact ⟨rfl, rfl, by decide, rfl, rfl, rfl, rfl⟩
  · rintro s rfl; decide +kernel

theorem witness_PowerWarningHoldsTheJournal :
    (∀ s, s = stopping .isOpen .active → s.powered = true ∧ s.pwrwarn = false ∧ (s.chan 1).runsOut = true ∧
      (s.chan 0).endsAtOnce = true ∧ (s.chan 0).burning = some .a ∧
      ((s.chan 0).slot .a).taking = some cornerTaking ∧ (∀ j, j ≠ 0 → (s.chan j).endsAtOnce = false) ∧
      (s.chan 3).runsOut = false ∧ (s.chan 3).endsAtOnce = false) ∧
    (∀ k, (base.chan k).endsAtOnce = false) ∧
    (∀ n q seen stop, ∀ s, s = (((burning .qualifying).modChan 3 fun c => { c with qualCounter := n }).withPwrwarn
        true).withJs { base.js with held := true, warningSeen := seen, stopped := stop, queue := q } →
      s.powered = true ∧ s.pwrwarn = true ∧ s.js.warningSeen = seen ∧ s.js.stopped = stop ∧ s.js.queue = q ∧
      (s.chan 3).state = .qualifying ∧ (s.chan 3).snapshot = some ⟨defaultProfile, 0⟩ ∧ (s.chan 3).qualCounter = n ∧
      (s.chan 3).contact = true ∧ ∀ j, j ≠ 3 → (s.chan j).state ≠ .qualifying) ∧
    (defaultProfile.settle = 20 ∧ 19 < defaultProfile.settle) ∧
    (∀ e ∈ [JEntry.advance 3, .wafer 7], ∀ n, e ≠ .rideThrough n) ∧
    [JEntry.advance 3, .rideThrough 65535, .wafer 7] = [.advance 3] ++ .rideThrough 65535 :: [.wafer 7] := by
  refine ⟨?_, by decide, ?_, by decide, ?_, by decide⟩
  · rintro s rfl; decide +kernel
  · rintro n q seen stop s rfl
    refine ⟨rfl, rfl, rfl, rfl, rfl, rfl, rfl, rfl, rfl, ?_⟩
    intro j hj
    match j with
    | 0 | 1 | 2 => exact nofun
    | 3 => exact absurd rfl hj
  · intro e he n
    simp only [List.mem_cons, List.not_mem_nil, or_false] at he
    rcases he with rfl | rfl <;> exact nofun

theorem witness_ResetLineTakesEffect : (burning .checking).powered = true ∧ (burning .checking).js.write = none ∧
    (writing (.wafer 7) 7 .erase base).powered = true ∧ (writing (.wafer 7) 7 .erase base).js.write ≠ none ∧
    (burning .checking).drt.records[0]? = some (cornerRecord .burning (some ⟨3, some .a⟩) (some 76352)) := by
  decide +kernel

theorem witness_PowerOnReadsTheJournal : (burning .checking).js.write = none ∧
    (writing (.wafer 7) 7 .erase base).js.write = some ⟨.wafer 7, 7, false, .erase, 0⟩ ∧
    (JEntry.wafer 7).word < 32 := by decide +kernel

end Sys2Proof.Tests
end

section
/-!
PROOFS. The check sum (R72 to R74). `IsFold t f` names what R72 says the folded sum `f` of a whole sum `t` is; a sum has
one fold, so folding with any fuel that reaches the range 0 to 65535 gives the same number.
-/

namespace Sys2Proof

/-! ### Folding a sum -/

theorem foldCarry_of_le (n : Nat) {t : Nat} (h : t ≤ 65535) : foldCarry n t = t := by
  cases n with
  | zero => rfl
  | succ n => exact if_neg (Nat.not_lt.mpr h)

theorem foldCarry_succ_of_gt (n : Nat) {t : Nat} (h : 65535 < t) :
    foldCarry (n + 1) t = foldCarry n (t % 65536 + t / 65536) :=
  if_pos h

/-- A fold takes away 65535 for each carry, so the remainder stays. -/
theorem foldCarry_mod (n t : Nat) : foldCarry n t % 65535 = t % 65535 := by
  induction n generalizing t with
  | zero => rfl
  | succ n ih =>
    rcases Nat.lt_or_ge 65535 t with h | h
    · rw [foldCarry_succ_of_gt n h, ih]; omega
    · rw [foldCarry_of_le _ h]

theorem foldCarry_eq_zero_iff (n t : Nat) : foldCarry n t = 0 ↔ t = 0 := by
  induction n generalizing t with
  | zero => rfl
  | succ n ih =>
    rcases Nat.lt_or_ge 65535 t with h | h
    · rw [foldCarry_succ_of_gt n h, ih]; omega
    · rw [foldCarry_of_le _ h]

/-- The sum of `n` words is brought into range by `n` folds. -/
theorem foldCarry_le {n t : Nat} (h : t ≤ 65535 * n) : foldCarry n t ≤ 65535 := by
  induction n generalizing t with
  | zero => exact h.trans (Nat.zero_le _)
  | succ n ih =>
    rcases Nat.lt_or_ge 65535 t with hgt | hle
    · rw [foldCarry_succ_of_gt n hgt]; exact ih (by omega)
    · rwa [foldCarry_of_le _ hle]

/-- The sum of 1027 words, the longest message, is brought into range by two folds: the first leaves at most 66560. -/
theorem foldCarry_two_le {t : Nat} (h : t ≤ 65535 * 1027) : foldCarry 2 t ≤ 65535 := by
  rcases Nat.lt_or_ge 65535 t with ht | ht
  · rw [foldCarry_succ_of_gt 1 ht]
    have first : t % 65536 + t / 65536 ≤ 66560 := by omega
    generalize t % 65536 + t / 65536 = u at first ⊢
    rcases Nat.lt_or_ge 65535 u with hu | hu
    · rw [foldCarry_succ_of_gt 0 hu, foldCarry_of_le 0 (by omega)]; omega
    · rwa [foldCarry_of_le _ hu]
  · rwa [foldCarry_of_le _ ht]

/-! ### The folded sum as a residue -/

/-- `f` is the folded sum of the whole sum `t`, as R72 describes it: in range, of the same remainder on division by
65535, and 0 only for 0. -/
structure IsFold (t f : Nat) : Prop where
  le : f ≤ 65535
  mod_eq : f % 65535 = t % 65535
  eq_zero_iff : f = 0 ↔ t = 0

theorem IsFold.unique {t f g : Nat} (hf : IsFold t f) (hg : IsFold t g) : f = g := by
  obtain ⟨hfle, hfmod, hfzero⟩ := hf
  obtain ⟨hgle, hgmod, hgzero⟩ := hg
  omega

theorem isFold_foldCarry {n t : Nat} (h : foldCarry n t ≤ 65535) : IsFold t (foldCarry n t) :=
  ⟨h, foldCarry_mod n t, foldCarry_eq_zero_iff n t⟩

theorem sum_toNat_le (ws : List Word) : (ws.map BitVec.toNat).sum ≤ 65535 * ws.length := by
  have bound : ∀ n ∈ ws.map BitVec.toNat, n ≤ 65535 :=
    List.forall_mem_map.mpr fun w _ => Nat.le_of_lt_succ w.isLt
  simpa [Nat.mul_comm] using List.sum_le_card_nsmul _ 65535 bound

theorem sum_toNat_eq_zero_iff (ws : List Word) : (ws.map BitVec.toNat).sum = 0 ↔ ∀ w ∈ ws, w = 0 := by
  rw [List.sum_eq_zero_iff, List.forall_mem_map]
  exact forall₂_congr fun w _ => BitVec.toNat_inj (y := 0)

theorem isFold_foldedSum (ws : List Word) : IsFold (ws.map BitVec.toNat).sum (foldedSum ws) :=
  isFold_foldCarry (foldCarry_le (sum_toNat_le ws))

/-- Settles O11: the folded sum is the fold of the whole sum, and up to 1027 words two folds reach it too. -/
theorem foldedSumIsTheResidue : Obligations.FoldedSumIsTheResidue := by
  intro ws
  have fold := isFold_foldedSum ws
  refine ⟨fold.eq_zero_iff.trans (sum_toNat_eq_zero_iff ws), fold.le, fold.mod_eq, fun hlen => ?_⟩
  have hsum : (ws.map BitVec.toNat).sum ≤ 65535 * 1027 :=
    (sum_toNat_le ws).trans (Nat.mul_le_mul_left _ hlen)
  exact fold.unique (isFold_foldCarry (foldCarry_two_le hsum))

/-! ### Validity -/

theorem validWords_iff (ws : List Word) : validWords ws = true ↔ foldedSum ws = 65535 :=
  beq_iff_eq

theorem checkWord_toNat (ws : List Word) : (checkWord ws).toNat = 65535 - foldedSum ws :=
  wordOf_toNat (by omega)

/-- R74: the whole sum of words and their check word leaves remainder 0 and is above 0, all-zero words included, since
their check word is 65535. -/
theorem foldedSum_append_checkWord (ws : List Word) : foldedSum (ws ++ [checkWord ws]) = 65535 := by
  obtain ⟨hle, hmod, hzero⟩ := isFold_foldedSum ws
  have hsum : ((ws ++ [checkWord ws]).map BitVec.toNat).sum =
      (ws.map BitVec.toNat).sum + (65535 - foldedSum ws) := by simp [checkWord_toNat]
  refine (isFold_foldedSum _).unique ?_
  rw [hsum]
  exact ⟨le_rfl, by omega, by omega⟩

theorem validWords_append_checkWord (ws : List Word) : validWords (ws ++ [checkWord ws]) = true :=
  (validWords_iff _).mpr (foldedSum_append_checkWord ws)

/-! ### The assembled image -/

/-- A word put after a bit string is the last of its words, and the words before it are the bit string's. -/
theorem wordsOf_append_word (n : Nat) {m : Nat} (x : BitVec m) (w : Word) :
    wordsOf (n + 1) (x ++ w) = wordsOf n x ++ [w] := by
  have last : (x ++ w).extractLsb' (16 * (n + 1 - 1 - n)) 16 = w := by
    rw [BitVec.extractLsb'_append_eq_of_add_le (by omega)]; simp
  have before : ∀ i ∈ List.range n, (x ++ w).extractLsb' (16 * (n + 1 - 1 - i)) 16 =
      x.extractLsb' (16 * (n - 1 - i)) 16 := by
    intro i hi
    have hlt := List.mem_range.mp hi
    rw [BitVec.extractLsb'_append_eq_of_le (by omega),
      show 16 * (n + 1 - 1 - i) - 16 = 16 * (n - 1 - i) by omega]
  rw [wordsOf, List.range_succ, List.map_append, List.map_congr_left before, List.map_singleton, last, wordsOf]

theorem Machine.imageWords_assembleImage (n : Serial) (tag : Word) (p : Pos) (o : Word) (key : Key) :
    imageWords (assembleImage n tag p o key) =
      wordsOf 21 (imageBody n tag p o key) ++ [checkWord (wordsOf 21 (imageBody n tag p o key))] :=
  wordsOf_append_word 21 (imageBody n tag p o key) _

theorem Machine.imageValid_assembleImage (n : Serial) (tag : Word) (p : Pos) (o : Word) (key : Key) :
    imageValid (assembleImage n tag p o key) = true := by
  rw [imageValid, imageWords_assembleImage]
  exact validWords_append_checkWord _

/-- Settles O12: a formed check word completes the folded sum to 65535, and an image is its body's words and the check
word over them. -/
theorem formedCheckWordIsValid : Obligations.FormedCheckWordIsValid :=
  ⟨validWords_iff,
    fun ws => ⟨checkWord_toNat ws, foldedSum_append_checkWord ws, validWords_append_checkWord ws⟩,
    Machine.imageValid_assembleImage⟩

end Sys2Proof
end

section
/-!
PROOFS. SET PROFILE DEFAULT (R138), with what part STOP does to a supervisor request that R169 does not let through and
what the reply to a profile request says.
-/

namespace Sys2Proof.Machine

/-- A request that part STOP does not let through is answered PART STOPPED whatever the lane holds. -/
theorem State.supRequest_stopped {s : State} {kind : Byte} (room : s.full .supervisor = false)
    (stopped : s.fu.partStopped = true) (hk : takenInStop kind = false) (tag : Byte) (act : State → State) :
    s.supRequest kind tag act = s.reply .supervisor ⟨kind, tag, [18]⟩ := by
  simp [State.supRequest, room, stopped, hk, State.supReply, Code.word]

/-- A profile request that has just taken the lane and stores `p` is answered with `p`'s fields and the next generation
number. -/
theorem State.answerProfile_store_taken {s : State} {kind tag : Byte} (free : s.sup.lane = none) (p : Profile)
    (bits : Nat) :
    ((s.taken kind tag).withPs ((s.taken kind tag).ps.store p)).answerProfile bits =
      (s.withPs (s.ps.store p)).reply .supervisor
        ⟨kind, tag, (if bits = 0 then Code.accepted.word else Code.clamped.word) ::
          ([wordOf bits] ++ p.fields.map wordOf ++ [s.ps.gen + 1])⟩ :=
  State.supAnswer_taken (t := (s.taken kind tag).withPs (s.ps.store p)) free rfl _ _

theorem exec_setProfileDefault {s : State} (powered : s.powered = true) (tag : Byte) :
    exec (.setProfileDefault tag) s = .next (s.supRequest 0x26 tag setProfileDefaultAct) :=
  congrArg _ (State.live_powered powered _)

/-- Settles O46: a stopped part refuses the request before it looks at the lane; on a running one with the lane free the
default profile is stored and the reply is its fields with no clamped bit. -/
theorem setProfileDefaultStores : Obligations.SetProfileDefaultStores := by
  intro tag s powered room
  rw [exec_setProfileDefault powered]
  refine ⟨fun stopped => ?refused, fun running free => ?stored⟩
  case refused => rw [State.supRequest_stopped room stopped rfl]
  case stored =>
    rw [State.supRequest_ready ⟨powered, room, running, free⟩, setProfileDefaultAct,
      State.answerProfile_store_taken free]
    rfl

end Sys2Proof.Machine
end

section
/-!
PROOFS. What every step keeps (R12, R37, R62, R71, R80, R114, R128, R136). `State.Keeps s t` says that each of the four
invariants passes from `s` to `t`; it is reflexive and transitive, so every shared operation, and from them every command,
is shown to keep them once.
-/

namespace Sys2Proof.Machine

/-! ### Slots -/

/-- Both slots of a channel hold what their states say. -/
def Channel.SlotsHold (c : Channel) : Prop := c.slotA.Holds ∧ c.slotB.Holds

theorem Slot.reset_holds : Slot.reset.Holds := ⟨by simp [Slot.reset], by simp [Slot.reset]⟩

theorem Slot.emptied_holds (x : Slot) : x.emptied.Holds := ⟨by simp [Slot.emptied], by simp [Slot.emptied]⟩

theorem Slot.taken_holds (t : Taking) (x : Slot) : (x.taken t).Holds := ⟨by simp [Slot.taken], by simp [Slot.taken]⟩

/-- A slot that holds a record becomes STAGED with its image (R82). -/
theorem Slot.Holds.staged {x : Slot} (h : x.Holds) (hx : x.state = .deriving) (i : Image) : (x.staged i).Holds :=
  ⟨by simpa [Slot.staged, hx] using h.taking, by simp [Slot.staged]⟩

/-- A STAGED slot becomes BURNING with what it holds (R83). -/
theorem Slot.Holds.burning {x : Slot} (h : x.Holds) (hx : x.state = .staged) : ({ x with state := .burning } : Slot).Holds :=
  ⟨by simpa [hx] using h.taking, by simpa [hx] using h.image⟩

theorem Slot.Holds.unburned {x : Slot} (h : x.Holds) : x.unburned.Holds := by
  unfold Slot.unburned
  split
  · next hx => exact ⟨by simpa [hx] using h.taking, by simpa [hx] using h.image⟩
  · exact h

theorem Slot.Holds.discarded {x : Slot} (h : x.Holds) : x.discarded.Holds := ⟨h.taking, h.image⟩

theorem Channel.SlotsHold.slot {c : Channel} (h : c.SlotsHold) (l : SlotId) : (c.slot l).Holds := by
  cases l
  exacts [h.1, h.2]

theorem Channel.SlotsHold.setSlot {c : Channel} (h : c.SlotsHold) (l : SlotId) {x : Slot} (hx : x.Holds) :
    (c.setSlot l x).SlotsHold := by
  cases l
  exacts [⟨hx, h.2⟩, ⟨h.1, hx⟩]

/-! ### One channel -/

/-- The channel `c'` is as safe as `c`, where `p` is the profile the supervisor offers. -/
structure Channel.Carries (p : Profile) (c c' : Channel) : Prop where
  pulses : p.InRange → c.PulsesSafe → c'.PulsesSafe
  slots : c.SlotsHold → c'.SlotsHold

theorem Channel.Carries.refl (p : Profile) (c : Channel) : c.Carries p c := ⟨fun _ h => h, fun h => h⟩

theorem Channel.Carries.trans {p : Profile} {c c' c'' : Channel} (h : c.Carries p c') (g : c'.Carries p c'') :
    c.Carries p c'' :=
  ⟨fun hp hc => g.pulses hp (h.pulses hp hc), fun hc => g.slots (h.slots hc)⟩

/-- A change of none of the fields the invariants speak of. -/
theorem Channel.carries_same {p : Profile} {c c' : Channel} (slotA : c'.slotA = c.slotA) (slotB : c'.slotB = c.slotB)
    (snapshot : c'.snapshot = c.snapshot) (offset : c'.offset = c.offset) (pulsing : c'.pulsing = c.pulsing)
    (width : c'.curWidth = c.curWidth) (pulses : c'.curPulses = c.curPulses) (measuring : c'.measuring = c.measuring) :
    c.Carries p c' := by
  refine ⟨fun _ h => ⟨?_, ?_, ?_, ?_⟩, fun h => ?_⟩
  · rw [snapshot]; exact h.snapshot
  · rw [offset]; exact h.offset
  · rw [snapshot, pulsing, width]; exact h.width
  · rw [snapshot, pulsing, pulses, measuring]; exact h.pulses
  · unfold Channel.SlotsHold; rw [slotA, slotB]; exact h

/-- A channel that pulses no fuse has no width and no count to bound. -/
theorem Channel.PulsesSafe.quiet {c c' : Channel} (h : c.PulsesSafe)
    (snapshot : c'.snapshot = c.snapshot ∨ c'.snapshot = none) (offset : c'.offset = c.offset)
    (quiet : c'.pulsing = false) : c'.PulsesSafe where
  snapshot sn hsn := by
    rcases snapshot with hs | hs <;> rw [hs] at hsn
    · exact h.snapshot sn hsn
    · cases hsn
  offset := by rw [offset]; exact h.offset
  width _ _ hp := by rw [quiet] at hp; cases hp
  pulses _ _ hp := by rw [quiet] at hp; cases hp

/-- A change that keeps the slots and leaves the channel pulsing no fuse. -/
theorem Channel.carries_quiet {p : Profile} {c c' : Channel} (slotA : c'.slotA = c.slotA) (slotB : c'.slotB = c.slotB)
    (snapshot : c'.snapshot = c.snapshot ∨ c'.snapshot = none) (offset : c'.offset = c.offset)
    (quiet : c'.pulsing = false) : c.Carries p c' :=
  ⟨fun _ h => h.quiet snapshot offset quiet, fun h => by unfold Channel.SlotsHold; rw [slotA, slotB]; exact h⟩

theorem Channel.carries_setSlot {p : Profile} {c : Channel} {l : SlotId} {x : Slot}
    (h : (c.slot l).Holds → x.Holds) : c.Carries p (c.setSlot l x) where
  pulses _ hc := by cases l <;> exact ⟨hc.snapshot, hc.offset, hc.width, hc.pulses⟩
  slots hc := hc.setSlot l (h (hc.slot l))

theorem Channel.carries_beginCal (p : Profile) (kind : Byte) (c : Channel) : c.Carries p (c.beginCal kind) :=
  carries_quiet rfl rfl (.inl rfl) rfl rfl

theorem Channel.afterBurn_fields (e : Option Ending) (halt : Bool) (c : Channel) :
    (c.afterBurn e halt).slotA = c.slotA ∧ (c.afterBurn e halt).slotB = c.slotB ∧
    (c.afterBurn e halt).snapshot = none ∧ (c.afterBurn e halt).offset = c.offset ∧
    (c.afterBurn e halt).pulsing = false := by
  unfold Channel.afterBurn
  cases halt <;> cases h : c.calDeferred <;> simp [Channel.pulsing, Channel.beginCal]

/-- A burn that has ended leaves its channel with no snapshot and no fuse (R118). -/
theorem Channel.carries_afterBurn (p : Profile) (e : Option Ending) (halt : Bool) (c : Channel) :
    c.Carries p (c.afterBurn e halt) := by
  obtain ⟨slotA, slotB, snapshot, offset, quiet⟩ := Channel.afterBurn_fields e halt c
  exact carries_quiet slotA slotB (.inr snapshot) offset quiet

/-- The offered profile is in range, so a snapshot of it is (R139). -/
theorem Channel.carries_qualify {p : Profile} {c : Channel} {l : SlotId} (h : (c.slot l).state = .staged) (gen : Word) :
    c.Carries p { c.setSlot l { c.slot l with state := .burning } with
      state := .qualifying, snapshot := some { profile := p, gen := gen }, qualCounter := 0, bounce := 0,
      qualTimer := 0 } where
  pulses hp hc :=
    ⟨fun sn hsn => by cases hsn; exact hp, (by cases l <;> exact hc.offset), fun _ _ hq => (by cases hq),
      fun _ _ hq => (by cases hq)⟩
  slots hc := by cases l <;> exact hc.setSlot _ ((hc.slot _).burning h)

/-- The first pulse of a fuse has the width W0, and no pulse has been applied to it yet (R114). -/
theorem Channel.carries_startFuse {p q : Profile} {c c' : Channel} {sn : Snapshot} (hs : c.snapshot = some sn)
    (hq : sn.profile = q) (f : Fuse) (slotA : c'.slotA = c.slotA) (slotB : c'.slotB = c.slotB)
    (snapshot : c'.snapshot = c.snapshot) (offset : c'.offset = c.offset) : c.Carries p (c'.startFuse f q) where
  pulses _ hc := by
    subst hq
    have range := hc.snapshot sn hs
    have same : ∀ sn', (c'.startFuse f sn.profile).snapshot = some sn' → sn' = sn := fun sn' h => by
      have : some sn = some sn' := hs ▸ snapshot ▸ h
      exact (Option.some.inj this).symm
    refine ⟨fun sn' h => same sn' h ▸ range, ?_, fun sn' h _ => ?_, fun sn' h _ => ?_⟩
    · show -7 ≤ c'.offset ∧ c'.offset ≤ 7
      rw [offset]; exact hc.offset
    · rw [same sn' h]; exact ⟨le_rfl, range.wmax.1⟩
    · rw [same sn' h]; exact range.pmax.1
  slots hc := by
    show c'.slotA.Holds ∧ c'.slotB.Holds
    rw [slotA, slotB]; exact hc

theorem Channel.carries_nextFuse {p q : Profile} {c c' : Channel} {sn : Snapshot} (hs : c.snapshot = some sn)
    (hq : sn.profile = q) (slotA : c'.slotA = c.slotA) (slotB : c'.slotB = c.slotB)
    (snapshot : c'.snapshot = c.snapshot) (offset : c'.offset = c.offset) : c.Carries p (c'.nextFuse q) := by
  unfold Channel.nextFuse
  split
  · exact carries_startFuse hs hq _ slotA slotB snapshot offset
  · exact carries_quiet slotA slotB (.inl snapshot) offset rfl

/-- The width of the next pulse lies between W0 and Wmax again, since it grows by at least eight eighths (R114, R136). -/
theorem Profile.InRange.nextWidth {p : Profile} (h : p.InRange) {w : Nat} (hw : p.w0 ≤ w) :
    p.w0 ≤ nextWidth p w ∧ nextWidth p w ≤ p.wmax := by
  have grows : w * 8 ≤ w * p.g := Nat.mul_le_mul_left w h.g.1
  have := h.wmax
  unfold Machine.nextWidth
  omega

/-- A fuse that was not accepted and has pulses left is pulsed again (R114 step 6). -/
theorem Channel.carries_nextPulse {p : Profile} {c : Channel} {sn : Snapshot} (hs : c.snapshot = some sn)
    (hp : c.pulsing = true) (left : c.curPulses < sn.profile.pmax) :
    c.Carries p { c with
      curWidth := Machine.nextWidth sn.profile c.curWidth, driving := false, measuring := false } where
  pulses _ hc := by
    have same : ∀ sn', c.snapshot = some sn' → sn' = sn := fun sn' h => Option.some.inj (h.symm.trans hs)
    refine ⟨hc.snapshot, hc.offset, fun sn' h _ => ?_, fun sn' h _ => ?_⟩
    · rw [same sn' h]; exact (hc.snapshot sn hs).nextWidth (hc.width sn hs hp).1
    · rw [same sn' h]; exact left
  slots hc := hc

/-- A pulse that has ended is measured; it was one of at most Pmax (R114). -/
theorem Channel.carries_pulseMeasured {p : Profile} {c : Channel} {n : Nat} (hp : c.pulsing = true)
    (hm : c.measuring = false) (hn : n ≤ c.curPulses + 1) (att : Nat) :
    c.Carries p { c with curPulses := n, attPulses := att, driving := false, measuring := true } where
  pulses _ hc := by
    refine ⟨hc.snapshot, hc.offset, hc.width, fun sn h _ => ?_⟩
    have fewer := hc.pulses sn h hp
    rw [hm] at fewer
    exact hn.trans fewer
  slots hc := hc

/-- The offset a calibration sets lies in −7 to +7 (R131). -/
theorem calOffset_range {d old : Int} (h : -7 ≤ old ∧ old ≤ 7) : -7 ≤ calOffset d old ∧ calOffset d old ≤ 7 := by
  unfold calOffset calResultOf
  split <;> (try split) <;> grind

theorem Channel.carries_calibrated (p : Profile) (codes : List (BitVec 10)) (c : Channel) :
    c.Carries p (c.calibrated codes) where
  pulses _ hc := by
    have quiet : (c.calibrated codes).pulsing = false := by
      by_cases h : calResultOf (calDeviation codes) = .failed <;> simp [Channel.pulsing, Channel.calibrated, h]
    exact ⟨hc.snapshot, calOffset_range hc.offset, fun _ _ hp => (by rw [quiet] at hp; cases hp),
      fun _ _ hp => (by rw [quiet] at hp; cases hp)⟩
  slots hc := hc

theorem Channel.carries_reset {p : Profile} {c c' : Channel} (slotA : c'.slotA = Slot.reset)
    (slotB : c'.slotB = Slot.reset) (snapshot : c'.snapshot = none) (offset : c'.offset = c.offset ∨ c'.offset = 0)
    (quiet : c'.pulsing = false) : c.Carries p c' where
  pulses _ hc :=
    ⟨fun _ h => (by rw [snapshot] at h; cases h),
      (by rcases offset with h | h <;> rw [h]; exacts [hc.offset, ⟨by decide, by decide⟩]),
      fun _ _ hp => (by rw [quiet] at hp; cases hp), fun _ _ hp => (by rw [quiet] at hp; cases hp)⟩
  slots _ := by unfold Channel.SlotsHold; rw [slotA, slotB]; exact ⟨Slot.reset_holds, Slot.reset_holds⟩

theorem Channel.carries_tick (p : Profile) (c : Channel) : c.Carries p c.tick := by
  unfold Channel.tick Channel.tickQualify
  split
  · split
    · exact carries_same rfl rfl rfl rfl rfl rfl rfl rfl
    · exact .refl p c
  · split
    · exact carries_same rfl rfl rfl rfl rfl rfl rfl rfl
    · exact .refl p c
  · split
    · exact carries_same rfl rfl rfl rfl rfl rfl rfl rfl
    · exact .refl p c
  all_goals exact .refl p c

/-! ### One record -/

/-- A change of a record that keeps its position and takes neither its mark nor its flag away. -/
structure DieRecord.Lasting (f : DieRecord → DieRecord) : Prop where
  pos : ∀ r, (f r).pos = r.pos
  exhausted : ∀ r, r.exhausted = true → (f r).exhausted = true
  recovered : ∀ r, r.recovered = true → (f r).recovered = true

theorem DieRecord.unheld_lasting : DieRecord.Lasting DieRecord.unheld := ⟨fun _ => rfl, fun _ => id, fun _ => id⟩

theorem DieRecord.claimed_lasting (k : Site) : DieRecord.Lasting (DieRecord.claimed k) :=
  ⟨fun _ => rfl, fun _ => id, fun _ => id⟩

theorem DieRecord.takenUp_lasting (k : Site) (t : BitVec 32) : DieRecord.Lasting (DieRecord.takenUp k t) :=
  ⟨fun _ => rfl, fun _ => id, fun _ => id⟩

theorem DieRecord.bound_lasting (n : Serial) : DieRecord.Lasting (DieRecord.bound n) :=
  ⟨fun _ => rfl, fun _ => id, fun _ => id⟩

theorem DieRecord.slotted_lasting (k : Site) (l : SlotId) : DieRecord.Lasting (DieRecord.slotted k l) :=
  ⟨fun _ => rfl, fun _ => id, fun _ => id⟩

theorem DieRecord.blankCheckStart_lasting (k : Site) (t : BitVec 32) : DieRecord.Lasting (DieRecord.blankCheckStart k t) :=
  ⟨fun _ => rfl, fun _ => id, fun _ => id⟩

theorem DieRecord.pulseEnded_lasting : DieRecord.Lasting DieRecord.pulseEnded := ⟨fun _ => rfl, fun _ => id, fun _ => id⟩

theorem DieRecord.bitAccepted_lasting : DieRecord.Lasting DieRecord.bitAccepted :=
  ⟨fun _ => rfl, fun _ => id, fun _ => id⟩

/-- An ending sets the mark at most (R41, R57). -/
theorem DieRecord.ended_lasting (e : Ending) (lockRead : Bool) (t : BitVec 32) :
    DieRecord.Lasting (DieRecord.ended e lockRead t) :=
  ⟨fun _ => rfl, fun r h => by simp [DieRecord.ended, h], fun _ => id⟩

theorem DieRecord.adoptedAs_lasting (n : Serial) (lockRead : Bool) (t : BitVec 32) :
    DieRecord.Lasting (DieRecord.adoptedAs n lockRead t) :=
  ⟨fun _ => rfl, fun r h => by simp [DieRecord.adoptedAs, DieRecord.ended, h], fun _ _ => rfl⟩

theorem DieRecord.swept_lasting (t : BitVec 32) : DieRecord.Lasting (DieRecord.swept t) := by
  constructor <;> intro r <;> by_cases h : r.pulses = 0 <;> cases hs : r.state <;> simp [DieRecord.swept, hs, h]

theorem DieRecord.sweptBy_lasting (k : Site) : DieRecord.Lasting (DieRecord.sweptBy k) := by
  constructor <;> intro r <;> unfold DieRecord.sweptBy <;> split <;> simp [DieRecord.unheld]

theorem DieRecord.lineReset_lasting : DieRecord.Lasting DieRecord.lineReset := by
  constructor <;> intro r <;> cases hs : r.state <;> simp +contextual [DieRecord.lineReset, hs]

/-! ### The part -/

/-- Every invariant that holds of `s` holds of `t`. -/
structure State.Keeps (s t : State) : Prop where
  table : s.drt.Consistent → t.drt.Consistent
  secret : s.lc.secretHeld → t.lc.secretHeld
  offered : s.ps.profile.InRange → t.ps.profile.InRange
  channels : ∀ k, (s.chan k).Carries s.ps.profile (t.chan k)

theorem State.Keeps.refl (s : State) : s.Keeps s := ⟨id, id, id, fun _ => .refl ..⟩

theorem State.Keeps.trans {s t u : State} (h : s.Keeps t) (g : t.Keeps u) : s.Keeps u :=
  ⟨g.table ∘ h.table, g.secret ∘ h.secret, g.offered ∘ h.offered, fun k =>
    ⟨fun hp hc => (g.channels k).pulses (h.offered hp) ((h.channels k).pulses hp hc),
      fun hc => (g.channels k).slots ((h.channels k).slots hc)⟩⟩

/-- What changes none of table, lot controller, profile store and channels keeps every invariant. -/
theorem State.keeps_frame {s t : State} (drt : t.drt = s.drt) (lc : t.lc = s.lc) (ps : t.ps = s.ps)
    (chans : t.chans = s.chans) : s.Keeps t where
  table h := by rwa [drt]
  secret h := by rwa [lc]
  offered h := by rwa [ps]
  channels k := by rw [State.chan, State.chan, chans]; exact .refl ..

theorem State.keeps_withDrt {s : State} {d : Table} (h : s.drt.Consistent → d.Consistent) : s.Keeps (s.withDrt d) :=
  ⟨h, id, id, fun _ => .refl ..⟩

theorem State.keeps_withLc {s : State} {x : LotController} (h : s.lc.secretHeld → x.secretHeld) : s.Keeps (s.withLc x) :=
  ⟨id, h, id, fun _ => .refl ..⟩

theorem State.keeps_withPs {s : State} {x : ProfileStore} (h : x.profile.InRange) : s.Keeps (s.withPs x) :=
  ⟨id, id, fun _ => h, fun _ => .refl ..⟩

theorem State.keeps_withChans {s : State} {x : Four Channel} (h : ∀ k, (s.chan k).Carries s.ps.profile (x.get k)) :
    s.Keeps (s.withChans x) :=
  ⟨id, id, id, h⟩

theorem State.keeps_modChan {s : State} {k : Site} {f : Channel → Channel}
    (h : (s.chan k).Carries s.ps.profile (f (s.chan k))) : s.Keeps (s.modChan k f) :=
  State.keeps_withChans fun j => by
    rcases eq_or_ne j k with rfl | hj
    · simpa [State.chan] using h
    · simpa [State.chan, hj] using Channel.Carries.refl ..

/-- A change of one channel that touches no field the invariants speak of. -/
theorem State.keeps_modSame {s : State} {k : Site} {f : Channel → Channel}
    (h : ∀ c, (f c).slotA = c.slotA ∧ (f c).slotB = c.slotB ∧ (f c).snapshot = c.snapshot ∧ (f c).offset = c.offset ∧
      (f c).pulsing = c.pulsing ∧ (f c).curWidth = c.curWidth ∧ (f c).curPulses = c.curPulses ∧
      (f c).measuring = c.measuring) : s.Keeps (s.modChan k f) := by
  obtain ⟨hA, hB, hs, ho, hp, hw, hn, hm⟩ := h (s.chan k)
  exact State.keeps_modChan (Channel.carries_same hA hB hs ho hp hw hn hm)

theorem State.keeps_withSa (x : Allocator) (s : State) : s.Keeps (s.withSa x) := State.keeps_frame rfl rfl rfl rfl

theorem State.keeps_withPort (x : List PortEntry) (s : State) : s.Keeps (s.withPort x) :=
  State.keeps_frame rfl rfl rfl rfl

theorem State.keeps_withDu (x : DerivUnit) (s : State) : s.Keeps (s.withDu x) := State.keeps_frame rfl rfl rfl rfl

theorem State.keeps_withJs (x : Journal) (s : State) : s.Keeps (s.withJs x) := State.keeps_frame rfl rfl rfl rfl

theorem State.keeps_withFu (x : FaultUnit) (s : State) : s.Keeps (s.withFu x) := State.keeps_frame rfl rfl rfl rfl

theorem State.keeps_withSup (x : SupLink) (s : State) : s.Keeps (s.withSup x) := State.keeps_frame rfl rfl rfl rfl

theorem State.keeps_withPwrwarn (x : Bool) (s : State) : s.Keeps (s.withPwrwarn x) := State.keeps_frame rfl rfl rfl rfl

@[simp] theorem State.modRecord_chan (i : Nat) (f : DieRecord → DieRecord) (k : Site) (s : State) :
    (s.modRecord i f).chan k = s.chan k := rfl

@[simp] theorem State.place_chan (a : Access) (k j : Site) (s : State) : (s.place a k).chan j = s.chan j := rfl

theorem State.keeps_modSite (k : Site) (f : SiteLink → SiteLink) (s : State) : s.Keeps (s.modSite k f) :=
  State.keeps_frame rfl rfl rfl rfl

theorem State.keeps_place (a : Access) (k : Site) (s : State) : s.Keeps (s.place a k) :=
  State.keeps_frame rfl rfl rfl rfl

theorem State.keeps_report (n : Nat) (k : Option Site) (p : Option Pos) (x : Byte) (s : State) :
    s.Keeps (s.report n k p x) :=
  State.keeps_frame rfl rfl rfl rfl

theorem State.keeps_modFlags (f : AlertFlags → AlertFlags) (s : State) : s.Keeps (s.modFlags f) :=
  State.keeps_frame rfl rfl rfl rfl

theorem State.keeps_duWithdraw (p : DEntry → Bool) (s : State) : s.Keeps (s.duWithdraw p) :=
  State.keeps_frame rfl rfl rfl rfl

theorem State.keeps_supAnswer (c : Word) (ws : List Word) (s : State) : s.Keeps (s.supAnswer c ws) :=
  State.keeps_frame rfl rfl rfl rfl

theorem State.keeps_supTask (t : SupTask) (s : State) : s.Keeps (s.supTask t) := State.keeps_frame rfl rfl rfl rfl

theorem State.keeps_answerPrepare (k : Site) (c : Word) (ws : List Word) (s : State) : s.Keeps (s.answerPrepare k c ws) :=
  State.keeps_frame rfl rfl rfl rfl

theorem State.keeps_answerBurn (k : Site) (c : Word) (ws : List Word) (s : State) : s.Keeps (s.answerBurn k c ws) :=
  State.keeps_frame rfl rfl rfl rfl

theorem State.keeps_withIo (l : Link) (x : LinkIo) (s : State) : s.Keeps (s.withIo l x) := by
  cases l <;> exact State.keeps_frame rfl rfl rfl rfl

theorem State.keeps_reply (l : Link) (m : Message) (s : State) : s.Keeps (s.reply l m) := State.keeps_withIo ..

theorem State.keeps_modRecord {f : DieRecord → DieRecord} (h : DieRecord.Lasting f) (i : Nat) (s : State) :
    s.Keeps (s.modRecord i f) :=
  State.keeps_withDrt fun hd => Table.modify_consistent hd i f h.pos h.exhausted h.recovered

theorem State.keeps_duStart (s : State) : s.Keeps s.duStart := by
  rw [State.duStart_frame]; exact State.keeps_frame rfl rfl rfl rfl

theorem State.keeps_duPlace (e : DEntry) (s : State) : s.Keeps (s.duPlace e) := by
  rw [State.duPlace_frame]; exact State.keeps_frame rfl rfl rfl rfl

theorem State.keeps_jsStart (s : State) : s.Keeps s.jsStart := by
  rw [State.jsStart_frame]; exact State.keeps_frame rfl rfl rfl rfl

theorem State.keeps_jsPlace (es : List JEntry) (s : State) : s.Keeps (s.jsPlace es) := by
  rw [State.jsPlace_frame]; exact State.keeps_frame rfl rfl rfl rfl

theorem State.keeps_watchHits (m : WatchContent → Bool) (s : State) : s.Keeps (s.watchHits m) := by
  unfold State.watchHits
  dsimp only
  split <;> exact State.keeps_frame rfl rfl rfl rfl

/-- What is kept by every pass is kept by a whole loop. -/
theorem State.keeps_foldl {α : Type} {f : State → α → State} (h : ∀ (s : State) (a : α), s.Keeps (f s a)) (l : List α) (s : State) :
    s.Keeps (l.foldl f s) := by
  induction l generalizing s with
  | nil => exact .refl s
  | cons a l ih => exact (h s a).trans (ih _)

/-! ### Draws -/

theorem State.keeps_queueAdvance (k : Site) (s : State) : s.Keeps (s.queueAdvance k) :=
  (State.keeps_withSa ..).trans (State.keeps_jsPlace ..)

theorem State.keeps_setExhausted (s : State) : s.Keeps s.setExhausted := by
  unfold State.setExhausted
  dsimp only
  split <;> exact State.keeps_frame rfl rfl rfl rfl

theorem State.keeps_prefetch (k : Site) (s : State) : s.Keeps (s.prefetch k) := by
  unfold State.prefetch
  split
  · split
    · exact State.keeps_queueAdvance k s
    · exact State.keeps_setExhausted s
  · exact .refl s

theorem State.keeps_takeSerial (k : Site) (b : Block) (n : NextBlock) (s : State) : s.Keeps (s.takeSerial k b n) :=
  (State.keeps_withSa ..).trans (State.keeps_prefetch ..)

theorem State.keeps_draw (k : Site) (s : State) : s.Keeps (s.draw k).1 := by
  unfold State.draw
  dsimp only
  split
  · exact State.keeps_takeSerial ..
  · split
    · exact State.keeps_takeSerial ..
    · exact .refl s
    · split
      · exact .refl s
      · split
        · exact State.keeps_queueAdvance k s
        · exact State.keeps_setExhausted s

/-! ### Burns -/

theorem State.keeps_emptySlot (k : Site) (l : SlotId) (s : State) : s.Keeps (s.emptySlot k l) := by
  rw [State.emptySlot_eq]
  exact (State.keeps_withDu ..).trans (State.keeps_modChan (k := k) (f := fun _ => _)
    (Channel.carries_setSlot fun _ => ⟨by simp, by simp⟩))

theorem State.keeps_releaseSlot (k : Site) (l : SlotId) (s : State) : s.Keeps (s.releaseSlot k l) := by
  unfold State.releaseSlot
  split
  · exact .refl s
  · exact (State.keeps_emptySlot k l s).trans
      (State.keeps_modRecord DieRecord.unheld_lasting ..)

/-- A channel that begins its qualification has a STAGED slot (R104). -/
theorem State.keeps_startQualify {k : Site} {l : SlotId} {s : State} (h : ((s.chan k).slot l).state = .staged) :
    s.Keeps (s.startQualify k l) :=
  State.keeps_modChan (Channel.carries_qualify h _)

theorem State.keeps_acceptBurn (k : Site) (l : SlotId) (s : State) : s.Keeps (s.acceptBurn k l) := by
  have accepted : s.Keeps (s.modChan k fun c =>
      { c with contactLost := false, attPulses := 0, attBits := 0, cls := none, ending := none, burning := some l }) :=
    State.keeps_modSame fun _ => ⟨rfl, rfl, rfl, rfl, rfl, rfl, rfl, rfl⟩
  unfold State.acceptBurn
  dsimp only
  refine accepted.trans ?_
  split
  · next h => exact State.keeps_startQualify (by rw [State.modChan_chan]; cases l <;> exact h)
  · exact State.keeps_modChan (Channel.carries_quiet rfl rfl (.inl rfl) rfl rfl)

theorem State.keeps_burnAttempt (k : Site) (p : Pos) (s : State) : s.Keeps (s.burnAttempt k p) := by
  unfold State.burnAttempt
  split
  · exact State.keeps_answerBurn ..
  · split
    case h_4 =>
      split
      · exact State.keeps_answerBurn ..
      · exact State.keeps_acceptBurn ..
    case h_3 => exact State.keeps_modSite ..
    all_goals exact State.keeps_answerBurn ..

theorem State.keeps_recheckBurn (k : Site) (s : State) : s.Keeps (s.recheckBurn k) := by
  unfold State.recheckBurn
  split
  · exact .refl s
  · split
    · exact (State.keeps_modSite ..).trans (State.keeps_burnAttempt ..)
    · exact .refl s

theorem State.keeps_beginBlankCheck (k : Site) (s : State) : s.Keeps (s.beginBlankCheck k) := by
  unfold State.beginBlankCheck
  split
  · exact .refl s
  · refine State.Keeps.trans (State.keeps_modChan ?_) (State.keeps_modRecord (DieRecord.blankCheckStart_lasting ..) ..)
    exact Channel.carries_quiet rfl rfl (.inl rfl) rfl rfl

theorem State.leaveBurn_channel (k : Site) (e : Ending) (halt : Bool) (p : Pos) (s : State) :
    ∃ c, (s.leaveBurn k e halt p).chan k = Channel.afterBurn (some e) halt c ∧ c.slotA = (s.chan k).slotA ∧
      c.slotB = (s.chan k).slotB ∧ c.offset = (s.chan k).offset := by
  rw [State.leaveBurn, State.reportEnding_eq, State.modChan_chan]
  exact ⟨_, rfl, by split <;> rfl, by split <;> rfl, by split <;> rfl⟩

theorem State.leaveBurn_other {j k : Site} (h : j ≠ k) (e : Ending) (halt : Bool) (p : Pos) (s : State) :
    (s.leaveBurn k e halt p).chan j = s.chan j := by
  rw [State.leaveBurn, State.reportEnding_eq, State.modChan_chan_ne _ _ h]; rfl

/-- An ended burn keeps a channel safe whatever width and count its last pulse left, since no fuse is pulsed any more. -/
theorem State.keeps_leaveBurn {k : Site} {e : Ending} {halt : Bool} {p : Pos} {s t : State} (drt : s.drt.Consistent → t.drt.Consistent) (lc : t.lc = s.lc)
    (ps : t.ps = s.ps) (slots : (s.chan k).SlotsHold → (t.chan k).SlotsHold)
    (offset : (t.chan k).offset = (s.chan k).offset) (others : ∀ j, j ≠ k → t.chan j = s.chan j) :
    s.Keeps (t.leaveBurn k e halt p) := by
  have rest : (t.leaveBurn k e halt p).drt = t.drt ∧ (t.leaveBurn k e halt p).lc = t.lc ∧
      (t.leaveBurn k e halt p).ps = t.ps := by
    rw [State.leaveBurn, State.reportEnding_eq]; exact ⟨rfl, rfl, rfl⟩
  obtain ⟨hd, hl, hp⟩ := rest
  refine ⟨fun h => hd ▸ drt h, fun h => by rwa [hl, lc], fun h => by rwa [hp, ps], fun j => ?_⟩
  rcases eq_or_ne j k with rfl | hj
  · obtain ⟨c, hc, hA, hB, ho⟩ := State.leaveBurn_channel j e halt p t
    obtain ⟨fA, fB, fs, fo, fq⟩ := Channel.afterBurn_fields (some e) halt c
    rw [hc]
    refine ⟨fun _ h => h.quiet (.inr fs) (fo.trans (ho.trans offset)) fq, fun h => ?_⟩
    unfold Channel.SlotsHold
    rw [fA, fB, hA, hB]
    exact slots h
  · rw [State.leaveBurn_other hj, others j hj]; exact .refl ..

/-- The burn of channel `k`, as `t` has left its pulse counts, ends (R118). -/
theorem State.keeps_finishBurn_of {k : Site} {e : Ending} {halt : Bool} {s t : State} (drt : s.drt.Consistent → t.drt.Consistent) (lc : t.lc = s.lc)
    (ps : t.ps = s.ps) (slots : (s.chan k).SlotsHold → (t.chan k).SlotsHold)
    (offset : (t.chan k).offset = (s.chan k).offset) (others : ∀ j, j ≠ k → t.chan j = s.chan j)
    (burns : (t.chan k).burningTaking = none → t = s) : s.Keeps (t.finishBurn k e halt) := by
  unfold State.finishBurn
  split
  · next h => rw [burns h]; exact .refl s
  · next l x _ =>
    split
    · unfold State.endWritten
      refine State.keeps_leaveBurn drt lc ps (fun h => ?_) ?_ (fun j hj => ?_)
      · rw [State.place_chan, State.modChan_chan]
        cases l <;> exact (slots h).setSlot _ (Slot.emptied_holds _)
      · rw [State.place_chan, State.modChan_chan]
        cases l <;> exact offset
      · rw [State.place_chan, State.modChan_chan_ne _ _ hj]
        exact others j hj
    · unfold State.endUnwritten
      refine State.Keeps.trans (t := State.leaveBurn k e false x.pos (t.modChan k _))
        (State.keeps_leaveBurn drt lc ps (fun h => ?_) ?_ (fun j hj => ?_)) (State.keeps_answerBurn ..)
      · rw [State.modChan_chan]; exact (slots h).setSlot l ((slots h).slot l).unburned
      · rw [State.modChan_chan]; cases l <;> exact offset
      · rw [State.modChan_chan_ne _ _ hj]; exact others j hj

theorem State.keeps_finishBurn (k : Site) (e : Ending) (halt : Bool) (s : State) : s.Keeps (s.finishBurn k e halt) :=
  State.keeps_finishBurn_of id rfl rfl id rfl (fun _ _ => rfl) (fun _ => rfl)

theorem State.keeps_fixEnding (k : Site) (e : Ending) (s : State) : s.Keeps (s.fixEnding k e) :=
  State.keeps_modSame fun _ => ⟨rfl, rfl, rfl, rfl, rfl, rfl, rfl, rfl⟩

theorem State.keeps_interruptBurn (k : Site) (e : Ending) (s : State) : s.Keeps (s.interruptBurn k e) := by
  unfold State.interruptBurn
  dsimp only
  have finish := State.keeps_finishBurn k e false s
  have fix := State.keeps_fixEnding k e s
  split
  case h_4 => split; exacts [finish, fix]
  case h_5 => exact fix
  case h_6 => split; exacts [fix, finish]
  case h_7 => split; exacts [fix, finish]
  case h_1 | h_2 | h_3 => exact finish
  all_goals exact .refl s

theorem State.keeps_warnBurn (k : Site) (s : State) : s.Keeps (s.warnBurn k) := by
  unfold State.warnBurn
  split
  · exact State.keeps_interruptBurn ..
  · exact .refl s

/-- A pulse that a burn's end follows at once (R120, R123). -/
theorem State.keeps_countFinish (k : Site) (e : Ending) (halt : Bool) (s : State) :
    s.Keeps ((s.countPulse k).finishBurn k e halt) := by
  unfold State.countPulse
  split
  · exact State.keeps_finishBurn ..
  · next l x hx =>
    refine State.keeps_finishBurn_of (fun h => ?_) rfl rfl ?_ ?_ (fun j hj => ?_) (fun h => ?_)
    · exact Table.modify_consistent h _ _ (fun _ => rfl) (fun _ => id) (fun _ => id)
    · rw [State.modRecord_chan, State.modChan_chan]; exact id
    · rw [State.modRecord_chan, State.modChan_chan]; rfl
    · rw [State.modRecord_chan, State.modChan_chan_ne _ _ hj]
    · rw [State.modRecord_chan, State.modChan_chan] at h
      exact absurd (hx.symm.trans h) (by simp)

theorem State.keeps_answerEnded (k : Site) (w : EndWrite) (e : Ending) (n : Serial) (r r' : DieRecord) (s : State) :
    s.Keeps (s.answerEnded k w e n r r') := by
  refine State.Keeps.trans (State.keeps_modSame ?_) (State.keeps_answerBurn ..)
  exact fun _ => ⟨rfl, rfl, rfl, rfl, rfl, rfl, rfl, rfl⟩

theorem State.keeps_takeEnding (k : Site) (s : State) : s.Keeps (s.takeEnding k) := by
  unfold State.takeEnding
  split
  · exact .refl s
  · split
    · exact .refl s
    · exact (State.keeps_modRecord (DieRecord.ended_lasting ..) ..).trans (State.keeps_answerEnded ..)

/-- The count of skipped serials is no count of records. -/
theorem State.keeps_skipSerial (s : State) : s.Keeps s.skipSerial :=
  State.keeps_withDrt fun h =>
    ⟨fun st => (h.states st).symm ▸ by cases st <;> rfl, h.exhausted, h.recovered, h.sorted, h.mapped,
      h.covered, h.capacity⟩

theorem State.keeps_takeAdoption (k : Site) (s : State) : s.Keeps (s.takeAdoption k) := by
  unfold State.takeAdoption
  split
  · exact .refl s
  · split
    · exact .refl s
    · split
      · exact (State.keeps_modRecord (DieRecord.ended_lasting ..) ..).trans (State.keeps_answerEnded ..)
      · exact ((State.keeps_modRecord (DieRecord.adoptedAs_lasting ..) ..).trans (State.keeps_skipSerial _)).trans
          ((State.keeps_watchHits ..).trans (State.keeps_answerEnded ..))

theorem State.keeps_answerLookup (k : Site) (s : State) : s.Keeps (s.answerLookup k) := by
  unfold State.answerLookup
  split
  · unfold State.lookupAnswered
    split
    · exact State.keeps_finishBurn ..
    · refine State.Keeps.trans (State.keeps_modChan ?_) (State.keeps_duPlace ..)
      exact Channel.carries_quiet rfl rfl (.inl rfl) rfl rfl
  · exact .refl s

/-! ### PREPAREs -/

theorem State.keeps_setPhase (k : Site) (ph : PrepPhase) (s : State) : s.Keeps (s.setPhase k ph) :=
  State.keeps_modSite ..

theorem State.keeps_endClaimed (k : Site) (i : Nat) (c : Code) (s : State) : s.Keeps (s.endClaimed k i c) :=
  (State.keeps_answerPrepare ..).trans (State.keeps_place ..)

theorem State.keeps_endAborted (k : Site) (i : Nat) (clear : Bool) (s : State) : s.Keeps (s.endAborted k i clear) := by
  unfold State.endAborted
  split
  · exact State.keeps_endClaimed ..
  · exact State.keeps_answerPrepare ..

theorem State.keeps_drawStep (k : Site) (i : Nat) (s : State) : s.Keeps (s.drawStep k i) := by
  have drawn := State.keeps_draw k s
  unfold State.drawStep
  split
  · exact State.keeps_endClaimed ..
  · split <;> rename_i h <;> rw [h] at drawn <;> refine drawn.trans ?_
    · exact (State.keeps_setPhase ..).trans (State.keeps_place ..)
    · dsimp only
      split
      · exact State.keeps_endAborted ..
      · exact State.keeps_setPhase ..
    · exact State.keeps_endClaimed ..

theorem State.keeps_toSlot (k : Site) (i : Nat) (s : State) : s.Keeps (s.toSlot k i) :=
  (State.keeps_setPhase ..).trans (State.keeps_place ..)

theorem State.keeps_claimReserved (k : Site) (i : Nat) (r : DieRecord) (s : State) : s.Keeps (s.claimReserved k i r) := by
  have claimed : s.Keeps (s.modRecord i (DieRecord.claimed k)) :=
    State.keeps_modRecord (DieRecord.claimed_lasting k) i s
  unfold State.claimReserved
  split
  · dsimp only
    split
    · exact claimed.trans (State.keeps_drawStep ..)
    · exact claimed.trans (State.keeps_toSlot ..)
  · exact State.keeps_answerPrepare ..

/-- A lookup creates a record only for a position without one, in a table with room (R47, R48). -/
theorem State.keeps_lookupAccess (k : Site) (p : Pos) (s : State) : s.Keeps (s.lookupAccess k p) := by
  have answer : ∀ c ws, s.Keeps (s.answerPrepare k c ws) := fun c ws => State.keeps_answerPrepare k c ws s
  have takenUp : ∀ i, s.Keeps ((s.modRecord i (DieRecord.takenUp k s.lc.clock)).toSlot k i) := fun i =>
    (State.keeps_modRecord (DieRecord.takenUp_lasting ..) i s).trans (State.keeps_toSlot ..)
  unfold State.lookupAccess
  split
  · next hp =>
    split
    · exact answer ..
    · split
      · next hlen =>
        exact (State.keeps_withDrt fun h => Table.create_consistent h hp hlen k _).trans (State.keeps_drawStep ..)
      · exact answer ..
  · split
    · exact .refl s
    · dsimp only
      split
      case h_1 =>
        split
        · exact State.keeps_claimReserved ..
        · split
          · split <;> exact answer ..
          · exact answer ..
      case h_3 | h_4 =>
        split
        · exact answer ..
        · split
          · exact takenUp _
          · exact answer ..
      all_goals exact answer ..

theorem State.keeps_bindAccess (k : Site) (i : Nat) (n : Serial) (s : State) : s.Keeps (s.bindAccess k i n) := by
  have bound : s.Keeps ((s.modRecord i (DieRecord.bound n)).watchHits (WatchContent.atSerial n)) :=
    (State.keeps_modRecord (DieRecord.bound_lasting n) i s).trans (State.keeps_watchHits ..)
  unfold State.bindAccess
  dsimp only
  split
  · exact bound.trans (State.keeps_setPhase ..)
  · exact bound.trans (State.keeps_toSlot ..)

theorem State.keeps_slotAccess (k : Site) (i : Nat) (s : State) : s.Keeps (s.slotAccess k i) := by
  unfold State.slotAccess
  split
  · split
    · exact .refl s
    · refine State.Keeps.trans (State.Keeps.trans (State.Keeps.trans (State.keeps_modChan ?_)
        (State.keeps_modRecord (DieRecord.slotted_lasting ..) ..)) (State.keeps_duPlace ..)) (State.keeps_answerPrepare ..)
      exact Channel.carries_setSlot fun _ => Slot.taken_holds ..
  · exact .refl s

theorem State.keeps_clearClaim (k : Site) (i : Nat) (s : State) : s.Keeps (s.clearClaim k i) := by
  unfold State.clearClaim
  split
  · exact .refl s
  · split
    · exact State.keeps_modRecord DieRecord.unheld_lasting i s
    · exact .refl s

theorem State.keeps_lookupTaken (k : Site) (p : Pos) (s : State) : s.Keeps (s.lookupTaken k p) :=
  (State.keeps_lookupAccess ..).trans (State.keeps_modSite ..)

theorem State.keeps_prepareAccess (k : Site) (a : Access) (s : State) : s.Keeps (s.prepareAccess k a) := by
  unfold State.prepareAccess
  split
  · exact .refl s
  · split
    · exact State.keeps_lookupTaken ..
    · exact State.keeps_bindAccess ..
    · exact State.keeps_slotAccess ..
    · exact .refl s

theorem State.keeps_takeWaiting (s : State) (e : PortEntry) : s.Keeps (s.takeWaiting e) := by
  unfold State.takeWaiting
  split
  case h_4 => exact State.keeps_clearClaim ..
  case h_5 => exact State.keeps_takeEnding ..
  case h_6 => exact State.keeps_takeAdoption ..
  case h_7 => exact State.keeps_answerLookup ..
  all_goals exact State.keeps_prepareAccess ..

theorem State.keeps_drain (p : PortEntry → Bool) (s : State) : s.Keeps (s.drain p) :=
  (State.keeps_withPort ..).trans (State.keeps_foldl State.keeps_takeWaiting ..)

theorem State.keeps_drainFor (k : Site) (b : Bool) (s : State) : s.Keeps (s.drainFor k b) := State.keeps_drain ..

theorem State.keeps_drainPort (s : State) : s.Keeps s.drainPort := State.keeps_drain ..

theorem State.keeps_drainAll (s : State) : s.Keeps s.drainAll :=
  ((State.keeps_drain ..).trans (State.keeps_drain ..)).trans (State.keeps_drain ..)

theorem State.keeps_completeAdvance (k : Site) (b : Nat) (s : State) : s.Keeps (s.completeAdvance k b) := by
  have placed : s.Keeps (s.placeBlock k b) := State.keeps_frame rfl rfl rfl rfl
  unfold State.completeAdvance
  dsimp only
  split
  · split
    · exact placed.trans (State.keeps_drawStep ..)
    all_goals exact placed
  · exact placed

end Sys2Proof.Machine
end

section
/-!
PROOFS. Every command keeps the four invariants, and so does every step (O5 to O8).
-/

namespace Sys2Proof.Machine

/-! ### Site requests -/

theorem State.keeps_live {f : State → State} (h : ∀ s : State, s.Keeps (f s)) (s : State) : s.Keeps (s.live f) := by
  unfold State.live
  split
  · exact h s
  · exact .refl s

theorem State.keeps_siteReply (k : Site) (a b : Byte) (c : Code) (ws : List Word) (s : State) :
    s.Keeps (s.siteReply k a b c ws) :=
  State.keeps_reply ..

theorem State.keeps_siteRequest {act : State → State} (h : ∀ s : State, s.Keeps (act s)) (k : Site) (kind tag : Byte)
    (busy : Bool) (s : State) : s.Keeps (s.siteRequest k kind tag busy act) := by
  unfold State.siteRequest
  split
  · exact State.keeps_report ..
  · split
    · exact State.keeps_siteReply ..
    · split
      · exact State.keeps_siteReply ..
      · split
        · exact State.keeps_siteReply ..
        · exact h s

theorem State.keeps_takePrepare (k : Site) (tag : Byte) (p : Pos) (s : State) : s.Keeps (s.takePrepare k tag p) := by
  unfold State.takePrepare
  split
  · exact State.keeps_siteReply ..
  · dsimp only
    split
    · exact (State.keeps_watchHits ..).trans (State.keeps_modSite ..)
    · exact ((State.keeps_watchHits ..).trans (State.keeps_modSite ..)).trans (State.keeps_place ..)

theorem State.keeps_dropWaiting (k : Site) (l : SlotId) (s : State) : s.Keeps (s.dropWaiting k l) := by
  unfold State.dropWaiting
  split
  · exact (State.keeps_modChan (Channel.carries_afterBurn ..)).trans (State.keeps_answerBurn ..)
  · exact .refl s

theorem State.keeps_takeRelease (k : Site) (tag : Byte) (p : Pos) (s : State) : s.Keeps (s.takeRelease k tag p) := by
  unfold State.takeRelease
  split
  · exact State.keeps_siteReply ..
  · refine State.Keeps.trans (State.keeps_drainFor k false s) ?_
    unfold State.releaseAccess
    split
    · exact State.keeps_siteReply ..
    · split
      · exact State.keeps_siteReply ..
      · split
        · exact State.keeps_siteReply ..
        · exact ((State.keeps_releaseSlot ..).trans (State.keeps_siteReply ..)).trans (State.keeps_dropWaiting ..)

theorem State.keeps_takeBurn (k : Site) (tag : Byte) (p : Pos) (s : State) : s.Keeps (s.takeBurn k tag p) := by
  unfold State.takeBurn
  split
  · exact State.keeps_siteReply ..
  · exact (State.keeps_modSite ..).trans (State.keeps_burnAttempt ..)

theorem State.keeps_endCmdLane (k : Site) (clear : Bool) (s : State) : s.Keeps (s.endCmdLane k clear) := by
  unfold State.endCmdLane
  split
  · exact .refl s
  · split
    · exact State.keeps_modSite ..
    · exact .refl s
    · exact .refl s
    · exact State.keeps_answerPrepare ..
    all_goals exact State.keeps_endAborted ..

theorem State.keeps_endBurnLane (k : Site) (s : State) : s.Keeps (s.endBurnLane k) := by
  unfold State.endBurnLane
  split
  · exact .refl s
  · split
    · exact State.keeps_answerBurn ..
    · exact State.keeps_interruptBurn ..

theorem State.keeps_endSiteWork (k : Site) (clear : Bool) (s : State) : s.Keeps (s.endSiteWork k clear) :=
  (State.keeps_endCmdLane ..).trans (State.keeps_endBurnLane ..)

theorem State.keeps_takeAbort (k : Site) (tag : Byte) (s : State) : s.Keeps (s.takeAbort k tag) :=
  (State.keeps_endSiteWork ..).trans (State.keeps_modSite ..)

theorem State.keeps_answerStatus (k : Site) (tag : Byte) (s : State) : s.Keeps (s.answerStatus k tag) := by
  unfold State.answerStatus
  split
  · exact State.keeps_report ..
  · exact State.keeps_siteReply ..

theorem State.keeps_frameError (l : Link) (kind tag : Byte) (s : State) : s.Keeps (s.frameError l kind tag) := by
  unfold State.frameError
  dsimp only
  split
  · exact State.keeps_report ..
  · exact (State.keeps_reply ..).trans (State.keeps_report ..)

theorem State.keeps_brokenMessage (l : Link) (m : List Word) (s : State) : s.Keeps (s.brokenMessage l m) := by
  unfold State.brokenMessage
  split
  · exact .refl s
  · split
    · exact State.keeps_frameError ..
    · exact .refl s

theorem State.keeps_gapExpired (l : Link) (s : State) : s.Keeps (s.gapExpired l) := by
  unfold State.gapExpired
  split
  · exact .refl s
  all_goals exact (State.keeps_frameError ..).trans (State.keeps_withIo ..)

/-! ### Accesses taken from the port -/

theorem State.keeps_takeAccess {k : Site} {b : Bool} {p : Access → Bool} {s t : State} {a : Access}
    (h : s.takeAccess k b p = some (a, t)) : s.Keeps t := by
  unfold State.takeAccess at h
  split at h
  · cases h; exact State.keeps_withPort ..
  · cases h

theorem State.keeps_takeLookup (k : Site) (s : State) : s.Keeps (s.takeLookup k) := by
  unfold State.takeLookup
  split
  · next h => exact (State.keeps_takeAccess h).trans (State.keeps_prepareAccess ..)
  · exact .refl s

theorem State.keeps_takeBinding (k : Site) (s : State) : s.Keeps (s.takeBinding k) := by
  unfold State.takeBinding
  split
  · next h => exact (State.keeps_takeAccess h).trans (State.keeps_prepareAccess ..)
  · exact .refl s

theorem State.keeps_takeSlot (k : Site) (s : State) : s.Keeps (s.takeSlot k) := by
  unfold State.takeSlot
  split
  · next h => exact (State.keeps_takeAccess h).trans (State.keeps_prepareAccess ..)
  · exact .refl s

theorem State.keeps_takeClearing (k : Site) (s : State) : s.Keeps (s.takeClearing k) := by
  unfold State.takeClearing
  split
  · next h => exact (State.keeps_takeAccess h).trans (State.keeps_clearClaim ..)
  · exact .refl s

theorem State.keeps_takeEndingWrite (k : Site) (s : State) : s.Keeps (s.takeEndingWrite k) := by
  unfold State.takeEndingWrite
  split
  · next h => exact (State.keeps_takeAccess h).trans (State.keeps_takeEnding ..)
  · exact .refl s

theorem State.keeps_takeAdoptionAccess (k : Site) (s : State) : s.Keeps (s.takeAdoptionAccess k) := by
  unfold State.takeAdoptionAccess
  split
  · next h => exact (State.keeps_takeAccess h).trans (State.keeps_takeAdoption ..)
  · exact .refl s

theorem State.keeps_takeSerialLookup (k : Site) (s : State) : s.Keeps (s.takeSerialLookup k) := by
  unfold State.takeSerialLookup
  split
  · next h => exact (State.keeps_takeAccess h).trans (State.keeps_answerLookup ..)
  · exact .refl s

/-! ### Burn events -/

theorem State.keeps_contactLost (k : Site) (s : State) : s.Keeps (s.contactLost k) := by
  unfold State.contactLost
  dsimp only
  split
  case h_1 => exact State.keeps_modSame fun _ => ⟨rfl, rfl, rfl, rfl, rfl, rfl, rfl, rfl⟩
  case h_2 | h_3 =>
    split
    · exact State.keeps_countFinish ..
    · exact State.keeps_finishBurn ..
  case h_4 | h_5 | h_6 => exact State.keeps_finishBurn ..
  all_goals exact .refl s

theorem State.keeps_openContact (k : Site) (s : State) : s.Keeps (s.openContact k) := by
  have opened : s.Keeps (s.modChan k fun c => { c with contact := false }) :=
    State.keeps_modSame fun _ => ⟨rfl, rfl, rfl, rfl, rfl, rfl, rfl, rfl⟩
  unfold State.openContact
  dsimp only
  split
  · exact opened.trans (State.keeps_live (State.keeps_contactLost k) _)
  · exact opened

theorem State.keeps_startCheck (k : Site) (s : State) : s.Keeps (s.startCheck k) :=
  (State.keeps_drain ..).trans (State.keeps_beginBlankCheck ..)

theorem State.keeps_qualified (k : Site) (s : State) : s.Keeps (s.qualified k) := by
  unfold State.qualified
  dsimp only
  split
  · next sn _ _ =>
    have counted : s.Keeps (s.modChan k fun c => { c with qualCounter := sn.profile.settle }) :=
      State.keeps_modSame fun _ => ⟨rfl, rfl, rfl, rfl, rfl, rfl, rfl, rfl⟩
    split
    · split
      · exact counted
      · exact counted.trans (State.keeps_startCheck ..)
    · exact .refl s
  · exact .refl s

theorem State.keeps_qualifyExpired (k : Site) (s : State) : s.Keeps (s.qualifyExpired k) := by
  unfold State.qualifyExpired
  split
  · exact State.keeps_finishBurn ..
  · exact .refl s

theorem State.keeps_testAdoption (k : Site) (t : Taking) (r : Image) (s : State) : s.Keeps (s.testAdoption k t r) := by
  unfold State.testAdoption
  split
  · refine State.Keeps.trans (State.keeps_modSame ?_) (State.keeps_place ..)
    exact fun _ => ⟨rfl, rfl, rfl, rfl, rfl, rfl, rfl, rfl⟩
  · exact State.keeps_finishBurn ..

/-- The channel goes on with the profile of its own snapshot (R139). -/
theorem State.keeps_blankDecided {k : Site} {sn : Snapshot} {s : State} (hs : (s.chan k).snapshot = some sn) (l : Bool) :
    s.Keeps (s.blankDecided k sn.profile l) := by
  unfold State.blankDecided
  dsimp only
  split
  · next i _ _ =>
    have formed : s.Keeps (s.modChan k fun c =>
        { c with readImage := some (s.chan k).readSoFar, lockRead := some l,
                 cls := some (classify (s.chan k).readSoFar l i), measured := 353 }) :=
      State.keeps_modSame fun _ => ⟨rfl, rfl, rfl, rfl, rfl, rfl, rfl, rfl⟩
    refine State.Keeps.trans formed ?_
    split
    · exact State.keeps_modChan (Channel.carries_nextFuse (by rw [State.modChan_chan]; exact hs) rfl rfl rfl rfl rfl)
    · exact State.keeps_modChan (Channel.carries_nextFuse (by rw [State.modChan_chan]; exact hs) rfl rfl rfl rfl rfl)
    · split
      · exact State.keeps_finishBurn ..
      · split
        · exact State.keeps_modChan
            (Channel.carries_startFuse (by rw [State.modChan_chan]; exact hs) rfl _ rfl rfl rfl rfl)
        · exact State.keeps_finishBurn ..
    · exact State.keeps_testAdoption ..
    · exact State.keeps_finishBurn ..
  · exact .refl s

theorem State.keeps_blankMeasured (k : Site) (code : BitVec 10) (s : State) : s.Keeps (s.blankMeasured k code) := by
  unfold State.blankMeasured
  dsimp only
  split
  · next hs =>
    split
    · exact .refl s
    · split
      · exact State.keeps_finishBurn ..
      · split
        · exact State.keeps_modSame fun _ => ⟨rfl, rfl, rfl, rfl, rfl, rfl, rfl, rfl⟩
        · exact State.keeps_blankDecided hs _
  · exact .refl s

/-- A channel that pulses and measures nothing is measuring after its pulse's end, the count raised by one at most. -/
theorem State.keeps_pulseMeasured {k : Site} {s : State} (hp : (s.chan k).pulsing = true)
    (hm : (s.chan k).measuring = false) :
    s.Keeps ((s.countPulse k).modChan k fun c => { c with driving := false, measuring := true }) := by
  unfold State.countPulse
  split
  · exact State.keeps_modChan (Channel.carries_pulseMeasured hp hm (Nat.le_succ _) _)
  · next x _ =>
    have counted : s.Keeps (s.modChan k fun c =>
        { c with curPulses := c.curPulses + 1, attPulses := c.attPulses + 1, driving := false, measuring := true }) :=
      State.keeps_modChan (Channel.carries_pulseMeasured hp hm le_rfl _)
    have written := counted.trans (State.keeps_modRecord DieRecord.pulseEnded_lasting x.idx _)
    have same : ((s.modChan k Channel.countPulse).modRecord x.idx DieRecord.pulseEnded).modChan k
          (fun c => { c with driving := false, measuring := true }) =
        (s.modChan k fun c => { c with
          curPulses := c.curPulses + 1, attPulses := c.attPulses + 1, driving := false, measuring := true }).modRecord
            x.idx DieRecord.pulseEnded := by
      simp only [State.modChan_eq, State.modRecord_eq, State.chan, State.withDrt_chans,
        State.withChans_chans, Four.get_set_same, Four.set_set]
      rfl
    rw [same]
    exact written

theorem State.keeps_pulseEnded (k : Site) (reg : Bool) (s : State) : s.Keeps (s.pulseEnded k reg) := by
  unfold State.pulseEnded
  dsimp only
  split
  · next h =>
    split
    · exact State.keeps_pulseMeasured h.1 h.2
    · exact State.keeps_countFinish ..
  · exact .refl s

theorem State.keeps_acceptFuse (k : Site) (f : Fuse) (s : State) : s.Keeps (s.acceptFuse k f) := by
  unfold State.acceptFuse
  split
  · exact .refl s
  · refine State.Keeps.trans (State.keeps_modSame ?_) (State.keeps_modRecord DieRecord.bitAccepted_lasting ..)
    exact fun _ => ⟨rfl, rfl, rfl, rfl, rfl, rfl, rfl, rfl⟩

theorem State.acceptFuse_snapshot (k : Site) (f : Fuse) (s : State) :
    ((s.acceptFuse k f).chan k).snapshot = (s.chan k).snapshot := by
  unfold State.acceptFuse
  split
  · rfl
  · rw [State.modRecord_chan, State.modChan_chan]; rfl

theorem State.keeps_fuseMeasured (k : Site) (code : BitVec 10) (s : State) : s.Keeps (s.fuseMeasured k code) := by
  unfold State.fuseMeasured
  dsimp only
  split
  · next f sn _ hs =>
    split
    · next hp =>
      have accepted := State.keeps_acceptFuse k f s
      split
      · split
        · exact accepted.trans (State.keeps_finishBurn ..)
        · split
          · exact accepted.trans (State.keeps_modChan
              (Channel.carries_nextFuse ((State.acceptFuse_snapshot ..).trans hs) rfl rfl rfl rfl rfl))
          · exact accepted.trans (State.keeps_finishBurn ..)
      · split
        · exact State.keeps_finishBurn ..
        · split
          · next left => exact State.keeps_modChan (Channel.carries_nextPulse hs hp.1 left)
          · exact State.keeps_finishBurn ..
    · exact .refl s
  · exact .refl s

theorem State.keeps_verifyDecided {k : Site} {sn : Snapshot} {s : State} (hs : (s.chan k).snapshot = some sn) (r : Image) :
    s.Keeps (s.verifyDecided k sn.profile r) := by
  unfold State.verifyDecided
  split
  · exact .refl s
  · split
    · exact State.keeps_finishBurn ..
    · split
      · exact State.keeps_finishBurn ..
      · split
        · exact State.keeps_modChan (Channel.carries_startFuse hs rfl _ rfl rfl rfl rfl)
        · exact State.keeps_finishBurn ..

theorem State.keeps_verifyMeasured (k : Site) (code : BitVec 10) (s : State) : s.Keeps (s.verifyMeasured k code) := by
  unfold State.verifyMeasured
  dsimp only
  split
  · next sn _ hs =>
    split
    · exact State.keeps_finishBurn ..
    · have measured : s.Keeps (s.modChan k fun _ =>
          (s.chan k).recordFuse ((s.chan k).readsOne sn.profile.tr code)) :=
        State.keeps_modChan (Channel.carries_same rfl rfl rfl rfl rfl rfl rfl rfl)
      split
      · exact measured
      · exact measured.trans (State.keeps_verifyDecided (by rw [State.modChan_chan]; exact hs) _)
  · exact .refl s

/-! ### Calibrations -/

/-- Wafer, load and offset fields of the lot controller are none of the secret's. -/
theorem State.keeps_loadCheck (s : State) : s.Keeps s.loadCheck := by
  unfold State.loadCheck
  split
  · exact .refl s
  · split
    · exact State.Keeps.trans (State.keeps_withLc (by exact id)) (State.keeps_supAnswer ..)
    · exact .refl s

theorem State.keeps_loadRan (k : Site) (r : CalResult) (s : State) : s.Keeps (s.loadRan k r) :=
  State.Keeps.trans (State.keeps_withLc (by exact id)) (State.keeps_loadCheck _)

theorem State.keeps_completeWafer (v : Word) (s : State) : s.Keeps (s.completeWafer v) :=
  State.Keeps.trans (State.keeps_withLc (by exact id)) (State.keeps_loadCheck _)

theorem State.keeps_answerCalibrate (k : Site) (s : State) : s.Keeps (s.answerCalibrate k) := by
  unfold State.answerCalibrate
  split
  · split
    · exact State.keeps_supAnswer ..
    · exact .refl s
  · exact .refl s

theorem State.keeps_endCalibration (k : Site) (kind : Byte) (codes : List (BitVec 10)) (s : State) :
    s.Keeps (s.endCalibration k kind codes) := by
  have calibrated : s.Keeps (s.modChan k (Channel.calibrated codes)) :=
    State.keeps_modChan (Channel.carries_calibrated ..)
  unfold State.endCalibration
  dsimp only
  refine State.Keeps.trans ?_ (State.keeps_recheckBurn ..)
  refine State.Keeps.trans ?_ (State.keeps_loadRan ..)
  refine State.Keeps.trans ?_ (State.keeps_answerCalibrate ..)
  split
  · exact calibrated.trans (State.keeps_report ..)
  · exact calibrated

theorem State.keeps_calMeasured (k : Site) (code : BitVec 10) (s : State) : s.Keeps (s.calMeasured k code) := by
  unfold State.calMeasured
  dsimp only
  split
  · split
    · exact State.keeps_modSame fun _ => ⟨rfl, rfl, rfl, rfl, rfl, rfl, rfl, rfl⟩
    · exact State.keeps_endCalibration ..
  · exact .refl s

/-! ### Derivations -/

theorem State.keeps_deliverSlot (k : Site) (l : SlotId) (n : Serial) (p : Pos) (tag : Word) (key : Key) (s : State) :
    s.Keeps (s.deliverSlot k l n p tag key) := by
  unfold State.deliverSlot
  split
  · next hd =>
    have stagedSlot : s.Keeps (s.modChan k fun c =>
        c.setSlot l ((c.slot l).staged (assembleImage n tag p s.lc.header.options key))) :=
      State.keeps_modChan (Channel.carries_setSlot fun h => h.staged hd _)
    dsimp only
    split
    · exact stagedSlot.trans (State.keeps_startQualify (by simp [Slot.staged]))
    · exact stagedSlot
  · exact .refl s

theorem State.keeps_deliverAdopt (k : Site) (key : Key) (s : State) : s.Keeps (s.deliverAdopt k key) := by
  unfold State.deliverAdopt
  dsimp only
  split
  · exact State.keeps_finishBurn ..
  · exact .refl s

/-- A matching fingerprint opens the lot with its secret, and a mismatch erases it (R7). -/
theorem State.keeps_deliverFingerprint (key : Key) (s : State) : s.Keeps (s.deliverFingerprint key) := by
  unfold State.deliverFingerprint
  dsimp only
  split
  · exact State.Keeps.trans (State.keeps_withLc (by exact id)) (State.keeps_jsPlace ..)
  · split
    · exact State.Keeps.trans (State.keeps_withLc fun _ _ => rfl) (State.keeps_supAnswer ..)
    · exact State.Keeps.trans (State.keeps_withLc fun _ h => (by cases h)) (State.keeps_supAnswer ..)
  all_goals exact .refl s

theorem State.keeps_deliver (d : Derivation) (s : State) : s.Keeps (s.deliver d) := by
  unfold State.deliver
  split
  · split
    · exact State.keeps_modChan (Channel.carries_setSlot fun h => h.discarded)
    · exact State.keeps_deliverSlot ..
  · split
    · exact .refl s
    · exact State.keeps_deliverAdopt ..
  · split
    · exact .refl s
    · exact State.keeps_deliverFingerprint ..

theorem State.keeps_derived (s : State) : s.Keeps s.derived := by
  unfold State.derived
  split
  · exact .refl s
  · exact ((State.keeps_withDu ..).trans (State.keeps_deliver ..)).trans (State.keeps_duStart _)

/-! ### Supervisor requests -/

theorem State.keeps_supRequest {act : State → State} (h : ∀ s : State, s.Keeps (act s)) (kind tag : Byte) (s : State) :
    s.Keeps (s.supRequest kind tag act) := by
  unfold State.supRequest
  split
  · exact State.keeps_report ..
  · split
    · exact State.keeps_reply ..
    · split
      · exact State.keeps_reply ..
      · exact (State.keeps_withSup ..).trans (h _)

theorem openLotAct_keeps (tag : Word) (first count : BitVec 32) (options : Word) (secret : Key) (s : State) :
    s.Keeps (openLotAct tag first count options secret s) := by
  unfold openLotAct
  split
  · exact State.keeps_supAnswer ..
  · split
    · exact State.keeps_supAnswer ..
    · exact State.Keeps.trans (State.keeps_withLc fun _ _ => rfl) (State.keeps_duPlace ..)

theorem resumeLotAct_keeps (tag : Word) (secret : Key) (s : State) : s.Keeps (resumeLotAct tag secret s) := by
  unfold resumeLotAct
  split
  case h_7 =>
    split
    · exact State.keeps_supAnswer ..
    · exact State.Keeps.trans (State.keeps_withLc fun _ _ => rfl) (State.keeps_duPlace ..)
  all_goals exact State.keeps_supAnswer ..

theorem State.keeps_beginClose (s : State) : s.Keeps s.beginClose :=
  State.Keeps.trans (State.Keeps.trans (State.keeps_withLc fun _ _ => rfl) (State.keeps_withSa ..)) (State.keeps_jsPlace ..)

theorem closeLotAct_keeps (s : State) : s.Keeps (closeLotAct s) := by
  unfold closeLotAct
  split
  case h_6 | h_7 =>
    split
    · exact State.keeps_supAnswer ..
    · split
      · exact State.keeps_supAnswer ..
      · exact State.keeps_beginClose s
  all_goals exact State.keeps_supAnswer ..

theorem Channel.carries_loaded (p : Profile) (enabled : Bool) (c : Channel) : c.Carries p (c.loaded enabled) := by
  unfold Channel.loaded
  split
  · exact Channel.carries_beginCal ..
  · exact .refl p c

theorem State.loadChans_get (k : Site) (s : State) : s.loadChans.get k = (s.chan k).loaded (s.site k).enabled := by
  fin_cases k <;> rfl

theorem State.keeps_beginLoad (number cols rows : Word) (s : State) : s.Keeps (s.beginLoad number cols rows) := by
  unfold State.beginLoad
  refine State.Keeps.trans (State.keeps_drainPort _) ?_
  refine State.Keeps.trans ?_ (State.keeps_jsPlace ..)
  refine State.Keeps.trans ?_ (State.keeps_supTask ..)
  refine State.Keeps.trans ?_ (State.keeps_withChans ?_)
  · exact State.Keeps.trans (State.keeps_withLc (by exact id)) (State.keeps_withDrt fun _ => Table.emptied_consistent)
  · intro k
    rw [State.loadChans_get]
    exact Channel.carries_loaded ..

theorem loadWaferAct_keeps (number cols rows : Word) (s : State) : s.Keeps (loadWaferAct number cols rows s) := by
  unfold loadWaferAct
  split
  · exact State.keeps_supAnswer ..
  · split
    · exact State.keeps_supAnswer ..
    · split
      · exact State.keeps_supAnswer ..
      · exact State.keeps_beginLoad ..

theorem State.keeps_emptySlots (k : Site) (s : State) : s.Keeps (s.emptySlots k) := by
  have first : s.Keeps (if ((s.chan k).slot .a).state = .empty then s else s.emptySlot k .a) := by
    split
    · exact .refl s
    · exact State.keeps_emptySlot ..
  unfold State.emptySlots
  dsimp only
  generalize (if ((s.chan k).slot .a).state = .empty then s else s.emptySlot k .a) = s1 at first ⊢
  refine State.Keeps.trans first ?_
  split
  · exact .refl _
  · exact State.keeps_emptySlot ..

/-- A sweep that lasts in every record keeps the table (R17, R65). -/
theorem State.keeps_convert {f : DieRecord → DieRecord} (h : DieRecord.Lasting f) (s : State) :
    s.Keeps (s.withDrt (s.drt.convert f)) :=
  State.keeps_withDrt fun hd => Table.convert_consistent hd f h.pos h.exhausted h.recovered

theorem State.keeps_sweepWafer (s : State) : s.Keeps s.sweepWafer := by
  have emptied : s.Keeps (allSites.foldl (fun s k => s.emptySlots k) s.drainPort) :=
    (State.keeps_drainPort s).trans (State.keeps_foldl (fun s k => State.keeps_emptySlots k s) allSites _)
  unfold State.sweepWafer
  dsimp only
  generalize allSites.foldl (fun s k => s.emptySlots k) s.drainPort = u at emptied ⊢
  refine State.Keeps.trans emptied (State.Keeps.trans ?_ (State.keeps_supAnswer ..))
  exact State.Keeps.trans (State.keeps_convert (DieRecord.swept_lasting _) u) (State.keeps_withLc (by exact id))

theorem closeWaferAct_keeps (s : State) : s.Keeps (closeWaferAct s) := by
  unfold closeWaferAct
  split
  · exact State.keeps_supAnswer ..
  · split
    · exact State.keeps_supAnswer ..
    · split
      · exact State.keeps_supAnswer ..
      · exact State.keeps_sweepWafer s

/-- Clamping brings every field into its range, whatever was sent (R137). -/
theorem clampProfile_inRange (p : ProfileWords) : (clampProfile p).InRange := by
  constructor <;> simp only [clampProfile, clampTo] <;> omega

theorem defaultProfile_in_range : defaultProfile.InRange := by constructor <;> decide

theorem setProfileAct_keeps (p : ProfileWords) (s : State) : s.Keeps (setProfileAct p s) :=
  (State.keeps_withPs (clampProfile_inRange p)).trans (State.keeps_supAnswer ..)

theorem setProfileDefaultAct_keeps (s : State) : s.Keeps (setProfileDefaultAct s) :=
  (State.keeps_withPs defaultProfile_in_range).trans (State.keeps_supAnswer ..)

theorem calibrateAct_keeps (w : Word) (s : State) : s.Keeps (calibrateAct w s) := by
  unfold calibrateAct
  split
  · exact State.keeps_supAnswer ..
  · split
    · exact State.keeps_supAnswer ..
    · unfold calibrateChannel
      split
      case h_1 | h_2 => exact (State.keeps_modChan (Channel.carries_beginCal ..)).trans (State.keeps_supTask ..)
      case h_3 => exact State.keeps_supTask ..
      case h_11 => exact State.keeps_supAnswer ..
      all_goals
        refine State.Keeps.trans (State.keeps_modSame ?_) (State.keeps_supAnswer ..)
        exact fun _ => ⟨rfl, rfl, rfl, rfl, rfl, rfl, rfl, rfl⟩

theorem enableSiteAct_keeps (w : Word) (s : State) : s.Keeps (enableSiteAct w s) := by
  unfold enableSiteAct
  split
  · exact State.keeps_supAnswer ..
  · exact (State.keeps_modSite ..).trans (State.keeps_supAnswer ..)

theorem disableSiteAct_keeps (w : Word) (s : State) : s.Keeps (disableSiteAct w s) := by
  have released : ∀ k, s.Keeps (s.releaseSlots k) := by
    intro k
    unfold State.releaseSlots
    split
    · exact .refl s
    · exact ((State.keeps_drain ..).trans (State.keeps_releaseSlot ..)).trans (State.keeps_releaseSlot ..)
  unfold disableSiteAct
  split
  · exact State.keeps_supAnswer ..
  · split
    · exact State.keeps_supAnswer ..
    · exact ((released _).trans (State.keeps_modSite ..)).trans (State.keeps_supAnswer ..)

/-- A channel whose calibration is abandoned pulses a fuse no more and no less than before (R134). -/
theorem Channel.carries_dropCal (p : Profile) (c : Channel) : c.Carries p c.dropCal := by
  refine Channel.carries_same rfl rfl rfl rfl ?_ rfl rfl rfl
  unfold Channel.dropCal Channel.pulsing
  cases c.state <;> rfl

theorem resetSiteAct_keeps (w : Word) (s : State) : s.Keeps (resetSiteAct w s) := by
  unfold resetSiteAct
  split
  · exact State.keeps_supAnswer ..
  · exact ((State.keeps_supTask ..).trans (State.keeps_modChan (Channel.carries_dropCal ..))).trans
      (State.keeps_endSiteWork ..)

theorem State.keeps_sweepSite (k : Site) (n : Nat) (before : ChanState) (s : State) : s.Keeps (s.sweepSite k n before) := by
  unfold State.sweepSite
  refine State.Keeps.trans (State.keeps_convert (DieRecord.sweptBy_lasting k) s) ?_
  refine State.Keeps.trans ?_ (State.keeps_supAnswer ..)
  refine State.Keeps.trans ((State.keeps_emptySlots ..).trans (State.keeps_duWithdraw ..)) (State.keeps_modChan ?_)
  exact Channel.carries_quiet rfl rfl (.inr rfl) rfl rfl

theorem State.keeps_takeSweep (k : Site) (s : State) : s.Keeps (s.takeSweep k) := by
  unfold State.takeSweep
  split
  · exact .refl s
  · split
    case h_1 =>
      split
      · dsimp only
        split
        · exact State.keeps_endSiteWork ..
        · exact (State.keeps_endSiteWork ..).trans (State.keeps_sweepSite ..)
      · exact .refl s
    all_goals exact .refl s

theorem setWatchAct_keeps (e kind a : Word) (v : BitVec 32) (s : State) : s.Keeps (setWatchAct e kind a v s) := by
  unfold setWatchAct
  split
  · dsimp only
    split
    · exact State.keeps_frame rfl rfl rfl rfl
    · exact State.keeps_supAnswer ..
  · exact State.keeps_supAnswer ..

theorem clearWatchAct_keeps (e : Word) (s : State) : s.Keeps (clearWatchAct e s) := by
  unfold clearWatchAct
  split
  · exact State.keeps_supAnswer ..
  · exact State.keeps_frame rfl rfl rfl rfl

theorem releaseHoldAct_keeps (w : Word) (s : State) : s.Keeps (releaseHoldAct w s) := by
  unfold releaseHoldAct
  split
  · exact State.keeps_supAnswer ..
  · split
    · exact State.keeps_supAnswer ..
    · split
      case h_1 =>
        exact ((State.keeps_drain ..).trans (State.keeps_lookupTaken ..)).trans (State.keeps_supAnswer ..)
      case h_2 =>
        exact ((State.keeps_drain ..).trans (State.keeps_slotAccess ..)).trans (State.keeps_supAnswer ..)
      all_goals exact State.keeps_supAnswer ..

theorem readRecordsAct_keeps (first count : Word) (s : State) : s.Keeps (readRecordsAct first count s) := by
  unfold readRecordsAct
  split
  · exact State.keeps_supAnswer ..
  · split
    · exact State.keeps_supAnswer ..
    · exact State.keeps_supTask ..

theorem readChangedAct_keeps (s : State) : s.Keeps (readChangedAct s) := by
  unfold readChangedAct
  split
  · exact State.keeps_supTask ..
  · exact State.keeps_supAnswer ..

theorem State.keeps_copyRecords (first left : Nat) (ws : List Word) (s : State) :
    s.Keeps (s.copyRecords first left ws) := by
  unfold State.copyRecords
  dsimp only
  split
  · exact State.keeps_supAnswer ..
  · split
    · exact State.keeps_supAnswer ..
    · exact State.keeps_supTask ..

theorem State.keeps_copyPage (page : Nat) (ws : List Word) (s : State) : s.Keeps (s.copyPage page ws) := by
  unfold State.copyPage
  dsimp only
  split
  · exact State.keeps_supAnswer ..
  · split
    · exact State.keeps_supAnswer ..
    · exact State.keeps_supTask ..

/-- The marks of the change map are no part of the table's agreement with itself. -/
theorem Table.Consistent.withMarks {d : Table} (h : d.Consistent) (m : Vector Bool 128) :
    ({ d with marks := m } : Table).Consistent :=
  ⟨h.states, h.exhausted, h.recovered, h.sorted, h.mapped, h.covered, h.capacity⟩

theorem State.keeps_copyFirst (s : State) : s.Keeps s.copyFirst := by
  unfold State.copyFirst
  split
  · exact State.keeps_supAnswer ..
  · exact (State.keeps_withDrt fun h => h.withMarks _).trans (State.keeps_copyPage ..)

theorem State.keeps_copyRecord (s : State) : s.Keeps s.copyRecord := by
  unfold State.copyRecord
  split
  · split
    · exact State.keeps_copyRecords ..
    · exact State.keeps_copyFirst s
    · exact State.keeps_copyPage ..
    all_goals exact .refl s
  · exact .refl s

theorem State.keeps_answerReadStatus (tag : Byte) (s : State) : s.Keeps (s.answerReadStatus tag) := by
  unfold State.answerReadStatus
  split
  · exact State.keeps_report ..
  · exact State.keeps_reply ..

/-! ### Journal, power and resets -/

theorem State.keeps_completeOpen (s : State) : s.Keeps s.completeOpen :=
  State.Keeps.trans (State.Keeps.trans (State.keeps_withLc fun _ _ => rfl) (State.keeps_withSa ..))
    (State.keeps_supAnswer ..)

theorem State.keeps_completeClose (s : State) : s.Keeps s.completeClose :=
  State.Keeps.trans (State.Keeps.trans (State.keeps_withLc fun _ h => (by cases h)) (State.keeps_withSa ..))
    (State.keeps_supAnswer ..)

theorem State.keeps_handOn (e : JEntry) (v : Word) (s : State) : s.Keeps (s.handOn e v) := by
  unfold State.handOn
  split
  · exact .refl s
  · split
    · exact State.keeps_completeOpen s
    · exact State.keeps_completeClose s
  · exact State.keeps_completeWafer ..
  · split
    · exact .refl s
    · exact State.keeps_completeAdvance ..
  · exact State.keeps_withJs ..

/-- A reset erases the secret, empties the slots and keeps a channel's offset at most (R12, R99, R127). -/
theorem State.keeps_lineReset (s : State) : s.Keeps s.lineReset where
  table h := Table.convert_consistent h _ DieRecord.lineReset_lasting.pos DieRecord.lineReset_lasting.exhausted
    DieRecord.lineReset_lasting.recovered
  secret _ h := by cases h
  offered := id
  channels k := by
    have : s.lineReset.chan k = (s.chan k).lineReset := Four.get_map ..
    rw [this]
    refine Channel.carries_reset rfl rfl rfl (.inl rfl) ?_
    unfold Channel.lineReset Channel.pulsing
    dsimp only
    split <;> rfl

theorem State.keeps_powerOn (s : State) : s.Keeps s.powerOn where
  table _ := Table.emptied_consistent
  secret _ h := by cases h
  offered _ := defaultProfile_in_range
  channels k := by
    have : s.powerOn.chan k = { Channel.reset with contact := (s.chan k).contact } := Four.get_map ..
    rw [this]
    exact Channel.carries_reset rfl rfl rfl (.inr rfl) rfl

theorem State.keeps_cutWrite (s : State) : s.Keeps s.cutWrite := by
  unfold State.cutWrite
  split
  · exact .refl s
  · exact State.keeps_frame rfl rfl rfl rfl

theorem State.keeps_writeEnded (s : State) : s.Keeps s.writeEnded := by
  unfold State.writeEnded
  split
  · exact State.keeps_lineReset s
  · exact State.keeps_jsStart s

theorem State.keeps_tryEnded (v : Word) (s : State) : s.Keeps (s.tryEnded v) := by
  unfold State.tryEnded
  split
  · exact .refl s
  · split
    · exact .refl s
    · dsimp only
      split
      · refine State.Keeps.trans ?_ (State.keeps_writeEnded _)
        exact (State.keeps_withJs ..).trans (State.keeps_handOn ..)
      · split <;> exact State.keeps_withJs ..

theorem State.keeps_stopDraw (k : Site) (s : State) : s.Keeps (s.stopDraw k) := by
  unfold State.stopDraw
  split
  · exact .refl s
  · split
    case h_1 => exact State.keeps_endClaimed ..
    all_goals exact .refl s

theorem State.keeps_stopBurn (k : Site) (s : State) : s.Keeps (s.stopBurn k) := by
  have dropped : s.Keeps (s.modChan k fun c => { c with calDeferred := false }) :=
    State.keeps_modSame fun _ => ⟨rfl, rfl, rfl, rfl, rfl, rfl, rfl, rfl⟩
  unfold State.stopBurn
  dsimp only
  split
  · exact dropped
  · split
    · exact dropped.trans (State.keeps_answerBurn ..)
    · exact dropped.trans (State.keeps_interruptBurn ..)

theorem State.keeps_stopLot (s : State) : s.Keeps s.stopLot := by
  unfold State.stopLot
  split
  case h_1 => exact State.Keeps.trans (State.keeps_withLc fun _ h => (by cases h)) (State.keeps_supAnswer ..)
  case h_2 | h_3 => exact State.Keeps.trans (State.keeps_withLc fun _ h => (by cases h)) (State.keeps_supAnswer ..)
  all_goals
    split
    · exact State.Keeps.trans (State.keeps_withLc (by exact id)) (State.keeps_supAnswer ..)
    · exact .refl s

theorem State.keeps_partStop (s : State) : s.Keeps s.partStop := by
  unfold State.partStop
  refine State.Keeps.trans ?_ (State.keeps_foldl (fun s k => State.keeps_stopBurn k s) allSites _)
  refine State.Keeps.trans ?_ (State.keeps_foldl (fun s k => State.keeps_stopDraw k s) allSites _)
  refine State.Keeps.trans ?_ (State.keeps_stopLot _)
  exact State.keeps_frame rfl rfl rfl rfl

theorem State.keeps_writeFailed (s : State) : s.Keeps s.writeFailed := by
  unfold State.writeFailed
  split
  · exact .refl s
  · split
    · dsimp only
      split
      · refine State.Keeps.trans ?_ (State.keeps_lineReset _)
        exact ((State.keeps_withJs ..).trans (State.keeps_report ..)).trans (State.keeps_partStop _)
      · exact ((State.keeps_withJs ..).trans (State.keeps_report ..)).trans (State.keeps_partStop _)
    · exact .refl s

theorem State.keeps_warned (s : State) : s.Keeps s.warned :=
  ((State.keeps_withJs ..).trans (State.keeps_modFlags ..)).trans
    (State.keeps_foldl (fun s k => State.keeps_warnBurn k s) allSites _)

theorem State.keeps_beginHeldCheck (k : Site) (s : State) : s.Keeps (s.beginHeldCheck k) := by
  unfold State.beginHeldCheck
  dsimp only
  split
  · split
    · exact State.keeps_startCheck ..
    · exact .refl s
  · exact .refl s

theorem State.keeps_unwarned (s : State) : s.Keeps s.unwarned :=
  (((State.keeps_withJs ..).trans (State.keeps_modFlags ..)).trans (State.keeps_jsStart _)).trans
    (State.keeps_foldl (fun s k => State.keeps_beginHeldCheck k s) allSites _)

theorem State.keeps_resetAsserted (s : State) : s.Keeps s.resetAsserted := by
  unfold State.resetAsserted
  split
  · exact State.keeps_frame rfl rfl rfl rfl
  · exact State.keeps_lineReset s

theorem State.keeps_tick (s : State) : s.Keeps s.tick :=
  ⟨id, id, id, fun k => by
    have : s.tick.chan k = (s.chan k).tick := Four.get_map ..
    rw [this]; exact Channel.carries_tick ..⟩

end Sys2Proof.Machine
end

section
/-!
PROOFS. Every step keeps the four invariants (O5 to O8), and they hold at reset (O4).
-/

namespace Sys2Proof.Machine

theorem takeSiteMessage_eq (k : Site) (tag : Byte) (r : SiteReq) (s : State) :
    takeSiteMessage k tag r s = exec (r.instr k tag) s := by cases r <;> rfl

theorem takeSupMessage_eq (tag : Byte) (r : SupReq) (s : State) : takeSupMessage tag r s = exec (r.instr tag) s := by
  cases r <;> rfl

/-- A command's meaning answers a next state in which every invariant still holds. -/
def KeepsOutcome (s : State) (o : Host.Outcome State Fault Refusal) : Prop := ∃ t, o = .next t ∧ s.Keeps t

theorem keepsOutcome_live {f : State → State} (h : ∀ s : State, s.Keeps (f s)) (s : State) :
    KeepsOutcome s (.next (s.live f)) :=
  ⟨_, rfl, State.keeps_live h s⟩

theorem siteInstr_keeps (k : Site) (tag : Byte) (r : SiteReq) (s : State) : KeepsOutcome s (exec (r.instr k tag) s) := by
  cases r with
  | prepare p => exact keepsOutcome_live (fun s => State.keeps_siteRequest (State.keeps_takePrepare k tag p) k _ _ _ s) s
  | release p => exact keepsOutcome_live (fun s => State.keeps_siteRequest (State.keeps_takeRelease k tag p) k _ _ _ s) s
  | burn p => exact keepsOutcome_live (fun s => State.keeps_siteRequest (State.keeps_takeBurn k tag p) k _ _ _ s) s
  | abort => exact keepsOutcome_live (fun s => State.keeps_siteRequest (State.keeps_takeAbort k tag) k _ _ _ s) s
  | status => exact keepsOutcome_live (State.keeps_answerStatus k tag) s

/-- A supervisor request that goes over the lane keeps what its meaning keeps. -/
theorem keepsOutcome_sup {act : State → State} (h : ∀ s : State, s.Keeps (act s)) (kind tag : Byte) (s : State) :
    KeepsOutcome s (.next (s.live fun s => s.supRequest kind tag act)) :=
  keepsOutcome_live (State.keeps_supRequest h kind tag) s

theorem supInstr_keeps (tag : Byte) (r : SupReq) (s : State) : KeepsOutcome s (exec (r.instr tag) s) := by
  cases r with
  | openLot l f c o x => exact keepsOutcome_sup (openLotAct_keeps l f c o x) _ tag s
  | resumeLot l x => exact keepsOutcome_sup (resumeLotAct_keeps l x) _ tag s
  | closeLot => exact keepsOutcome_sup closeLotAct_keeps _ tag s
  | loadWafer n c r => exact keepsOutcome_sup (loadWaferAct_keeps n c r) _ tag s
  | closeWafer => exact keepsOutcome_sup closeWaferAct_keeps _ tag s
  | setProfile p => exact keepsOutcome_sup (setProfileAct_keeps p) _ tag s
  | setProfileDefault => exact keepsOutcome_sup setProfileDefaultAct_keeps _ tag s
  | calibrate c => exact keepsOutcome_sup (calibrateAct_keeps c) _ tag s
  | enableSite k => exact keepsOutcome_sup (enableSiteAct_keeps k) _ tag s
  | disableSite k => exact keepsOutcome_sup (disableSiteAct_keeps k) _ tag s
  | resetSite k => exact keepsOutcome_sup (resetSiteAct_keeps k) _ tag s
  | setWatch e k a v => exact keepsOutcome_sup (setWatchAct_keeps e k a v) _ tag s
  | clearWatch e => exact keepsOutcome_sup (clearWatchAct_keeps e) _ tag s
  | releaseHold k => exact keepsOutcome_sup (releaseHoldAct_keeps k) _ tag s
  | readRecords f c => exact keepsOutcome_sup (readRecordsAct_keeps f c) _ tag s
  | readChanged => exact keepsOutcome_sup readChangedAct_keeps _ tag s
  | readSummary =>
    exact keepsOutcome_sup (fun s => (State.keeps_drainAll s).trans (State.keeps_supAnswer ..)) _ tag s
  | readStatus => exact keepsOutcome_live (State.keeps_answerReadStatus tag) s
  | readFaults => exact keepsOutcome_sup (fun s => State.keeps_supAnswer _ _ s) _ tag s
  | clearFaults =>
    exact keepsOutcome_sup (fun s => (State.keeps_withFu _ s).trans (State.keeps_supAnswer ..)) _ tag s
  | ackAlert f => exact keepsOutcome_sup (act := ackAlertAct f) (fun s => State.keeps_frame rfl rfl rfl rfl) _ tag s
  | setAlertMask m => exact keepsOutcome_sup (act := setAlertMaskAct m) (fun s => State.keeps_frame rfl rfl rfl rfl) _ tag s

theorem takeMessage_keeps (l : Link) (m : Message) (s : State) : KeepsOutcome s (takeMessage l m s) := by
  unfold takeMessage
  split
  · split
    · rw [takeSiteMessage_eq]; exact siteInstr_keeps ..
    · exact ⟨s, rfl, .refl s⟩
  · split
    · rw [takeSupMessage_eq]; exact supInstr_keeps ..
    · exact ⟨s, rfl, .refl s⟩

theorem byteArrived_keeps (l : Link) (b : Byte) (s : State) : KeepsOutcome s (byteArrived l b s) := by
  have whole : ∀ io ws, KeepsOutcome s (takeWhole l ws (s.withIo l io)) := by
    intro io ws
    unfold takeWhole
    split
    · exact ⟨_, rfl, (State.keeps_withIo ..).trans (State.keeps_frameError ..)⟩
    · obtain ⟨t, ht, hk⟩ := takeMessage_keeps l ‹_› (s.withIo l io)
      exact ⟨t, ht, (State.keeps_withIo ..).trans hk⟩
  unfold byteArrived
  split
  · exact ⟨_, rfl, State.keeps_withIo ..⟩
  all_goals
    dsimp only
    split
    · exact whole ..
    · exact ⟨_, rfl, State.keeps_withIo ..⟩

theorem execByteReceived_keeps (l : Link) (b : Byte) (s : State) : KeepsOutcome s (execByteReceived l b s) := by
  unfold execByteReceived
  split
  · exact byteArrived_keeps l b s
  · exact ⟨s, rfl, .refl s⟩

theorem execPwrwarnAssert_keeps (s : State) : KeepsOutcome s (execPwrwarnAssert s) := by
  refine ⟨_, rfl, ?_⟩
  split
  · exact .refl s
  · exact (State.keeps_withPwrwarn true s).trans (State.keeps_live State.keeps_warned _)

theorem execPwrwarnDeassert_keeps (s : State) : KeepsOutcome s (execPwrwarnDeassert s) := by
  refine ⟨_, rfl, ?_⟩
  split
  · exact (State.keeps_withPwrwarn false s).trans (State.keeps_live State.keeps_unwarned _)
  · exact .refl s

/-- Every command answers a next state in which every invariant still holds. -/
theorem exec_keeps (c : Instr) (s : State) : KeepsOutcome s (exec c s) := by
  cases c with
  | prepare k tag p => exact siteInstr_keeps k tag (.prepare p) s
  | prepareLookup k => exact keepsOutcome_live (State.keeps_takeLookup k) s
  | serialBinding k => exact keepsOutcome_live (State.keeps_takeBinding k) s
  | slotAccess k => exact keepsOutcome_live (State.keeps_takeSlot k) s
  | claimClearing k => exact keepsOutcome_live (State.keeps_takeClearing k) s
  | release k tag p => exact siteInstr_keeps k tag (.release p) s
  | burn k tag p => exact siteInstr_keeps k tag (.burn p) s
  | abort k tag => exact siteInstr_keeps k tag .abort s
  | status k tag => exact siteInstr_keeps k tag .status s
  | frameError l m => exact keepsOutcome_live (State.keeps_brokenMessage l m) s
  | gapTimeout l => exact keepsOutcome_live (State.keeps_gapExpired l) s
  | replySent l => exact keepsOutcome_live (fun s => State.keeps_withIo l _ s) s
  | openLot tag l f c o x => exact supInstr_keeps tag (.openLot l f c o x) s
  | resumeLot tag l x => exact supInstr_keeps tag (.resumeLot l x) s
  | closeLot tag => exact supInstr_keeps tag .closeLot s
  | loadWafer tag n c r => exact supInstr_keeps tag (.loadWafer n c r) s
  | closeWafer tag => exact supInstr_keeps tag .closeWafer s
  | setProfile tag p => exact supInstr_keeps tag (.setProfile p) s
  | setProfileDefault tag => exact supInstr_keeps tag .setProfileDefault s
  | calibrate tag c => exact supInstr_keeps tag (.calibrate c) s
  | enableSite tag k => exact supInstr_keeps tag (.enableSite k) s
  | disableSite tag k => exact supInstr_keeps tag (.disableSite k) s
  | resetSite tag k => exact supInstr_keeps tag (.resetSite k) s
  | resetSiteSweep k => exact keepsOutcome_live (State.keeps_takeSweep k) s
  | setWatch tag e k a v => exact supInstr_keeps tag (.setWatch e k a v) s
  | clearWatch tag e => exact supInstr_keeps tag (.clearWatch e) s
  | releaseHold tag k => exact supInstr_keeps tag (.releaseHold k) s
  | readRecords tag f c => exact supInstr_keeps tag (.readRecords f c) s
  | readChanged tag => exact supInstr_keeps tag .readChanged s
  | recordCopy => exact keepsOutcome_live State.keeps_copyRecord s
  | readSummary tag => exact supInstr_keeps tag .readSummary s
  | readStatus tag => exact supInstr_keeps tag .readStatus s
  | readFaults tag => exact supInstr_keeps tag .readFaults s
  | clearFaults tag => exact supInstr_keeps tag .clearFaults s
  | ackAlert tag f => exact supInstr_keeps tag (.ackAlert f) s
  | setAlertMask tag m => exact supInstr_keeps tag (.setAlertMask m) s
  | derivationComplete => exact keepsOutcome_live State.keeps_derived s
  | adoptionAccess k => exact keepsOutcome_live (State.keeps_takeAdoptionAccess k) s
  | adoptionSerialLookup k => exact keepsOutcome_live (State.keeps_takeSerialLookup k) s
  | contactCloses k =>
    exact ⟨_, rfl, State.keeps_modSame fun _ => ⟨rfl, rfl, rfl, rfl, rfl, rfl, rfl, rfl⟩⟩
  | contactOpens k => exact ⟨_, rfl, State.keeps_openContact k s⟩
  | qualificationComplete k => exact keepsOutcome_live (State.keeps_qualified k) s
  | qualifyTimeout k => exact keepsOutcome_live (State.keeps_qualifyExpired k) s
  | blankCheckMeasurement k code => exact keepsOutcome_live (State.keeps_blankMeasured k code) s
  | pulseEnd k reg => exact keepsOutcome_live (State.keeps_pulseEnded k reg) s
  | fuseMeasurementDone k code => exact keepsOutcome_live (State.keeps_fuseMeasured k code) s
  | verifyMeasurement k code => exact keepsOutcome_live (State.keeps_verifyMeasured k code) s
  | burnEndingWrite k => exact keepsOutcome_live (State.keeps_takeEndingWrite k) s
  | calibrationMeasurement k code => exact keepsOutcome_live (State.keeps_calMeasured k code) s
  | journalTryEnd v => exact keepsOutcome_live (State.keeps_tryEnded v) s
  | journalWriteFail => exact keepsOutcome_live State.keeps_writeFailed s
  | pwrwarnAssert => exact execPwrwarnAssert_keeps s
  | pwrwarnDeassert => exact execPwrwarnDeassert_keeps s
  | resetLine => exact keepsOutcome_live State.keeps_resetAsserted s
  | powerOnReset => exact ⟨_, rfl, (State.keeps_cutWrite s).trans (State.keeps_powerOn _)⟩
  | supplyLoss =>
    exact ⟨_, rfl, ((State.keeps_cutWrite s).trans (State.keeps_powerOn _)).trans (State.keeps_frame rfl rfl rfl rfl)⟩
  | lotClockTick => exact keepsOutcome_live (fun s => State.keeps_withLc (by exact id)) s
  | byteReceived l b => exact execByteReceived_keeps l b s

/-- Every step keeps every invariant. -/
theorem step_keeps {s t : State} (h : step s = .next t) : s.Keeps t := by
  have kept : KeepsOutcome s (step s) := by
    unfold step
    split
    · exact keepsOutcome_live State.keeps_tick s
    · next c rest _ =>
      obtain ⟨u, hu, hk⟩ := exec_keeps c (s.withPending rest)
      exact ⟨u, hu, State.Keeps.trans (State.keeps_frame (t := s.withPending rest) rfl rfl rfl rfl) hk⟩
  obtain ⟨u, hu, hk⟩ := kept
  rw [h] at hu
  cases hu
  exact hk

/-- Settles O5: the table's accesses are changes that last, creations for free positions, and sweeps of such changes. -/
theorem tableStaysConsistent : Obligations.TableStaysConsistent := fun _ _ hs h => (step_keeps h).table hs

/-- Settles O6: a secret is stored on entry to OPENING or RESUMING, and erased with the lot state it belongs to. -/
theorem secretOnlyUnderALot : Obligations.SecretOnlyUnderALot := fun _ _ hs h => (step_keeps h).secret hs

/-- Settles O7: a channel takes snapshots of a profile in range only, and pulses within its own snapshot. -/
theorem pulsesStayWithinProfile : Obligations.PulsesStayWithinProfile := fun _ _ hs h =>
  have kept := step_keeps h
  ⟨kept.offered hs.offered, fun k => (kept.channels k).pulses hs.offered (hs.channels k)⟩

/-- Settles O8: each change of a slot's state brings or takes what the new state holds. -/
theorem slotsKeepTheirFields : Obligations.SlotsKeepTheirFields := fun _ _ hs h k =>
  ((step_keeps h).channels k).slots (hs k)

/-- Settles O4: power-on reset makes the invariants hold, from whatever state; the part as delivered is the table
emptied, no secret, the default profile and the channels reset. -/
theorem invariantsHoldAtReset : Obligations.InvariantsHoldAtReset := by
  have reset : ∀ k, State.reset.chan k = Channel.reset := Four.get_all Channel.reset
  refine ⟨Table.emptied_consistent, fun h => (by cases h), ⟨defaultProfile_in_range, fun k => ?_⟩, fun k => ?_⟩ <;>
    rw [reset]
  · exact ⟨fun _ h => (by cases h), by decide, fun _ h => (by cases h), fun _ h => (by cases h)⟩
  · exact ⟨Slot.reset_holds, Slot.reset_holds⟩

end Sys2Proof.Machine
end

section
/-!
PROOFS. Steps, ticks, the reset tables and fault reports (O1, O2, O3, O16).
-/

namespace Sys2Proof.Machine

/-! ### Steps -/

theorem step_command {s : State} {c : Instr} {rest : List Instr} (h : s.pending = c :: rest) :
    step s = exec c (s.withPending rest) := by simp [step, h]

theorem step_idle {s : State} (h : s.pending = []) : step s = .next (s.live State.tick) := by simp [step, h]

/-- Settles O1. -/
theorem stepRunsCommandAtFront : Obligations.StepRunsCommandAtFront :=
  ⟨fun _ _ _ h => step_command h,
    fun _ h powered => (step_idle h).trans (congrArg _ (State.live_powered powered _)),
    fun _ h unpowered => (step_idle h).trans (congrArg _ (State.live_unpowered unpowered _))⟩

/-! ### A tick -/

theorem State.tick_chan (k : Site) (s : State) : s.tick.chan k = (s.chan k).tick := Four.get_map _ _ k

theorem State.tick_site (k : Site) (s : State) :
    s.tick.site k = { s.site k with io := (s.site k).io.tick } := Four.get_map _ _ k

theorem State.tick_io (l : Link) (s : State) : s.tick.io l = (s.io l).tick := by
  cases l with
  | site k => exact congrArg SiteLink.io (State.tick_site k s)
  | supervisor => rfl

theorem Channel.tick_qualifying {c : Channel} {sn : Snapshot} (h : c.state = .qualifying) (hs : c.snapshot = some sn) :
    c.tick = { c with
      qualCounter := if c.contact then min sn.profile.settle (c.qualCounter + 1) else c.qualCounter
      qualTimer := min (sn.profile.timeout * 100) (c.qualTimer + 1) } := by
  simp [Channel.tick, Channel.tickQualify, h, hs]

theorem Channel.tick_pulsing {c : Channel} (h : c.state = .programming ∨ c.state = .locking) :
    c.tick = { c with driving := c.driving || (c.curFuse.isSome && !c.measuring && c.ending.isNone) } := by
  have due : c.tick = if c.pulseDue then { c with driving := true } else c := by
    rcases h with h | h <;> simp [Channel.tick, h]
  rw [due, ← Channel.pulseDue]
  cases c.pulseDue <;> simp

theorem Channel.tick_other {c : Channel}
    (h : c.state ∉ [ChanState.qualifying, .programming, .locking] ∨ c.state = .qualifying ∧ c.snapshot = none) :
    c.tick = c := by
  rcases h with h | ⟨h, hs⟩
  · unfold Channel.tick
    split <;> simp_all
  · simp [Channel.tick, Channel.tickQualify, h, hs]

theorem LinkIo.tick_eq (io : LinkIo) : io.tick = if io.rx = .await then io else { io with gap := io.gap + 1 } := by
  unfold LinkIo.tick
  cases h : io.rx <;> simp

theorem JWrite.tick_eq (w : JWrite) :
    w.tick =
      if w.phase = .erase ∧ 34 ≤ w.elapsed then { w with phase := .program, elapsed := 0 }
      else if w.phase = .program ∧ 39 ≤ w.elapsed then { w with phase := .readBack, elapsed := 0 }
      else { w with elapsed := w.elapsed + 1 } := by
  cases h : w.phase
  case erase =>
    by_cases late : 34 ≤ w.elapsed
    · simp [JWrite.tick, h, late, show ¬w.elapsed + 1 < 35 by omega]
    · simp [JWrite.tick, h, late, show w.elapsed + 1 < 35 by omega]
  case program =>
    by_cases late : 39 ≤ w.elapsed
    · simp [JWrite.tick, h, late, show ¬w.elapsed + 1 < 40 by omega]
    · simp [JWrite.tick, h, late, show w.elapsed + 1 < 40 by omega]
  all_goals simp [JWrite.tick, h]

/-- The word of the write in progress at a tick, with the words the write does not reach named first (R146, R147). -/
theorem Journal.tick_word_outside (j : Journal) (n : Nat) :
    j.tick.word n = match j.write with
      | none => j.word n
      | some w =>
        if n ≠ w.entry.word ∨ 32 ≤ n then j.word n
        else if (w.phase = .erase ∨ w.phase = .finalErase) ∧ 34 ≤ w.elapsed then 65535
        else if w.phase = .program ∧ 39 ≤ w.elapsed then j.word n &&& w.value
        else j.word n := by
  rw [Journal.tick_word]
  cases j.write with
  | none => rfl
  | some w =>
    by_cases inside : n = w.entry.word ∧ n < 32
    · simp only [inside.1, true_and, ne_eq, not_true, false_or]
      have : ¬32 ≤ w.entry.word := by omega
      have lt : w.entry.word < 32 := by omega
      simp [this, lt]
    · have out : n ≠ w.entry.word ∨ 32 ≤ n := by omega
      simp only [if_pos out]
      rw [if_neg (fun h => inside ⟨h.1, h.2.1⟩), if_neg (fun h => inside ⟨h.1, h.2.1⟩)]

/-- Settles O2: a tick acts on channels, receivers and journal write one by one, as the lemmas about each say. -/
theorem timePasses : Obligations.TimePasses := by
  refine ⟨fun s idle powered => ⟨s.tick, ?_, ?_, ?_, ?_, ?_, rfl, ?_, ?_, ?_, ?_, rfl, rfl⟩, JWrite.tick_eq,
    fun s powered => congrArg _ (State.live_powered powered _)⟩
  · rw [step_idle idle, State.live_powered powered]
  · intro k sn state snapshot
    rw [State.tick_chan, Channel.tick_qualifying state snapshot]
  · intro k state
    rw [State.tick_chan, Channel.tick_pulsing state]
  · intro k other
    rw [State.tick_chan, Channel.tick_other other]
  · intro l
    rw [State.tick_io, LinkIo.tick_eq]
  · intro k
    rw [State.tick_site]
  · exact (Journal.tick_frame s.js).2
  · exact (Journal.tick_frame s.js).1
  · exact Journal.tick_word_outside s.js

/-! ### Reset and faults -/

theorem Journal.word_zeros {j : Journal} (h : j.words = Vector.replicate 32 0) (n : Nat) : j.word n = 0 := by
  by_cases hn : n < 32 <;> simp [Journal.word, h, hn]

/-- Settles O3: the part as delivered is written out in `State.reset`, and every field is read off it. -/
theorem resetLeavesTheTables : Obligations.ResetLeavesTheTables := by
  have chan (k : Site) : State.reset.chan k = Channel.reset := Four.get_all _ k
  have site (k : Site) : State.reset.site k = SiteLink.reset := Four.get_all _ k
  have io (l : Link) : State.reset.io l = LinkIo.reset := by
    cases l with
    | site k => exact congrArg SiteLink.io (site k)
    | supervisor => rfl
  have slot (l : SlotId) : Channel.reset.slot l = Slot.reset := by cases l <;> rfl
  have counts (st : RecState) : State.reset.drt.counts.get st = 0 := by cases st <;> rfl
  have watch (e : Site) : State.reset.wt.get e = WatchEntry.reset := Four.get_all _ e
  unfold Obligations.ResetLeavesTheTables
  simp only [chan, site, io, slot, counts, watch, Journal.word_zeros (j := State.reset.js) rfl]
  refine ⟨rfl, rfl, rfl, rfl, rfl, rfl, rfl, rfl, rfl, rfl, rfl, rfl, fun _ => rfl, rfl, fun _ => trivial, rfl,
    fun _ => ?_, rfl, fun _ => trivial, rfl, rfl, rfl, rfl, rfl, rfl, fun _ => rfl, rfl, rfl, rfl, rfl, rfl, rfl, rfl, rfl, rfl,
    fun _ => ⟨rfl, rfl, rfl, rfl⟩, rfl, fun _ => ⟨rfl, rfl, rfl, rfl⟩, rfl, rfl, rfl, rfl⟩
  simp [Channel.reset, Slot.reset]

/-- Settles O16. -/
theorem faultsAreRecorded : Obligations.FaultsAreRecorded := by
  rintro code site pos kind s t rfl
  exact ⟨rfl, rfl, rfl, rfl, rfl, rfl, rfl, rfl, rfl⟩

end Sys2Proof.Machine
end

section
/-!
PROOFS. Words on the links and in an image: the round trips of the requests (O9, O10) and what one wrong fuse does to an
assembled image (O13).
-/

namespace Sys2Proof

/-! ### Bytes and frames -/

theorem wordsOfBytes_bytesOf (ws : List Word) : wordsOfBytes (bytesOf ws) = ws := by
  induction ws with
  | nil => rfl
  | cons w ws ih =>
    change joinBytes (hiByte w) (loByte w) :: wordsOfBytes (bytesOf ws) = w :: ws
    rw [joinBytes_hi_lo, ih]

theorem Message.validWords_words (m : Message) : validWords m.words = true := validWords_append_checkWord m.head

theorem Message.body_of_words (m : Message) : (m.words.drop 2).dropLast = m.body := by
  simp [Message.words, Message.head]

/-- A message whose body has the length its kind asks for passes every check of R156. -/
theorem checkFrame_words {l : Link} {m : Message} (h : bodyLength l m.kind = some m.body.length) :
    checkFrame l m.words = .good m := by
  have front : m.words.headD 0 = joinBytes m.kind m.tag := rfl
  simp only [checkFrame, m.validWords_words, m.body_of_words, front, hiByte_joinBytes, loByte_joinBytes, h]
  simp

/-! ### Site requests -/

theorem SiteReq.bodyLength_message (k : Site) (r : SiteReq) (tag : Byte) :
    bodyLength (.site k) (r.message tag).kind = some (r.message tag).body.length := by
  cases r <;> rfl

theorem decodeSite_message (r : SiteReq) (tag : Byte) : decodeSite (r.message tag) = some r := by
  cases r with
  | prepare p => exact congrArg (fun q => some (SiteReq.prepare q)) (wordPos_posWord p)
  | release p => exact congrArg (fun q => some (SiteReq.release q)) (wordPos_posWord p)
  | burn p => exact congrArg (fun q => some (SiteReq.burn q)) (wordPos_posWord p)
  | abort => rfl
  | status => rfl

/-- Settles O9. -/
theorem siteMessagesRoundTrip : Obligations.SiteMessagesRoundTrip := fun k tag r =>
  ⟨wordsOfBytes_bytesOf _, checkFrame_words (r.bodyLength_message k tag), decodeSite_message r tag⟩

/-! ### Supervisor requests -/

/-- Each word shifted in from the right brings down the next 16 bits of the value. -/
theorem foldl_keyWords (k : Key) (n : Nat) (h : n ≤ 16) :
    ((List.range n).map fun i => k.extractLsb' (16 * (16 - 1 - i)) 16).foldl
      (fun (acc : Key) (w : Word) => (acc <<< 16) ||| w.setWidth 256) 0 = k >>> (16 * (16 - n)) := by
  induction n with
  | zero => exact (BitVec.ushiftRight_eq_zero le_rfl).symm
  | succ n ih =>
    rw [List.range_succ, List.map_append, List.foldl_append, ih (by omega)]
    apply BitVec.eq_of_getLsbD_eq
    intro i hi
    simp only [List.map_cons, List.map_nil, List.foldl_cons, List.foldl_nil, BitVec.getLsbD_or,
      BitVec.getLsbD_shiftLeft, BitVec.getLsbD_ushiftRight, BitVec.getLsbD_setWidth, BitVec.getLsbD_extractLsb', hi,
      decide_true, Bool.true_and]
    by_cases low : i < 16
    · simp [low, show 16 * (16 - 1 - n) = 16 * (16 - (n + 1)) by omega]
    · simp [low, show 16 * (16 - n) + (i - 16) = 16 * (16 - (n + 1)) + i by omega]

theorem keyOfWords_keyWords (k : Key) : keyOfWords (keyWords k) = k := by
  have := foldl_keyWords k 16 le_rfl
  simpa [keyOfWords, keyWords, wordsOf] using this

theorem keyWords_length (k : Key) : (keyWords k).length = 16 := by simp [keyWords, wordsOf]

theorem keyWords_take (k : Key) : (keyWords k).take 16 = keyWords k :=
  List.take_of_length_le (keyWords_length k).le

theorem SupReq.bodyLength_message (r : SupReq) (tag : Byte) :
    bodyLength .supervisor (r.message tag).kind = some (r.message tag).body.length := by
  cases r <;> rfl

theorem decodeSup_openLot (lotTag : Word) (first count : BitVec 32) (options : Word) (secret : Key) (tag : Byte) :
    decodeSup ((SupReq.openLot lotTag first count options secret).message tag) =
      some (.openLot lotTag first count options secret) := by
  change some (SupReq.openLot lotTag (joinWords (hiWord first) (loWord first))
    (joinWords (hiWord count) (loWord count)) options (keyOfWords ((keyWords secret).take 16))) = _
  rw [joinWords_hi_lo, joinWords_hi_lo, keyWords_take, keyOfWords_keyWords]

theorem decodeSup_resumeLot (lotTag : Word) (secret : Key) (tag : Byte) :
    decodeSup ((SupReq.resumeLot lotTag secret).message tag) = some (.resumeLot lotTag secret) := by
  change some (SupReq.resumeLot lotTag (keyOfWords ((keyWords secret).take 16))) = _
  rw [keyWords_take, keyOfWords_keyWords]

theorem decodeSup_message (r : SupReq) (tag : Byte) : decodeSup (r.message tag) = some r := by
  cases r with
  | openLot l f c o x => exact decodeSup_openLot l f c o x tag
  | resumeLot l x => exact decodeSup_resumeLot l x tag
  | setWatch e k a v => exact congrArg (fun v => some (SupReq.setWatch e k a v)) (joinWords_hi_lo v)
  | _ => rfl

/-- Settles O10. -/
theorem supervisorMessagesRoundTrip : Obligations.SupervisorMessagesRoundTrip := fun tag r =>
  ⟨wordsOfBytes_bytesOf _, checkFrame_words (r.bodyLength_message tag), decodeSup_message r tag⟩

/-! ### One bit of a word set -/

theorem xor_twoPow_of_clear {w : Word} {b : Nat} (hb : b < 16) (h : w.getLsbD b = false) :
    (w ^^^ BitVec.twoPow 16 b).toNat = w.toNat + 2 ^ b := by
  have apart : w &&& BitVec.twoPow 16 b = 0#16 := by
    apply BitVec.eq_of_getLsbD_eq
    intro i _
    by_cases e : b = i
    · subst e; simp [h]
    · simp [BitVec.getLsbD_twoPow, e]
  have sum : w ^^^ BitVec.twoPow 16 b = w + BitVec.twoPow 16 b := by
    rw [BitVec.add_eq_or_of_and_eq_zero _ _ apart]
    apply BitVec.eq_of_getLsbD_eq
    intro i _
    by_cases e : b = i
    · subst e; simp [h]
    · simp [BitVec.getLsbD_twoPow, e]
  rw [sum, BitVec.toNat_add_of_and_eq_zero apart, BitVec.toNat_twoPow_of_lt hb]

/-- A bit read the other way moves the number by its weight, up or down. -/
theorem xor_twoPow_toNat (w : Word) {b : Nat} (hb : b < 16) :
    (w ^^^ BitVec.twoPow 16 b).toNat = w.toNat + 2 ^ b ∨ w.toNat = (w ^^^ BitVec.twoPow 16 b).toNat + 2 ^ b := by
  cases h : w.getLsbD b with
  | false => exact .inl (xor_twoPow_of_clear hb h)
  | true =>
    right
    have clear : (w ^^^ BitVec.twoPow 16 b).getLsbD b = false := by simp [h, hb]
    have back := xor_twoPow_of_clear hb clear
    rwa [BitVec.xor_assoc, BitVec.xor_self, BitVec.xor_zero] at back

/-- A valid word set with one bit read the other way is not valid: the whole sum moves by a power of two below 65535. -/
theorem validWords_set_xor {ws : List Word} (valid : validWords ws = true) {i b : Nat} (hi : i < ws.length)
    (hb : b < 16) : validWords (ws.set i (ws[i] ^^^ BitVec.twoPow 16 b)) = false := by
  have weight : 2 ^ b ≤ 32768 ∧ 0 < 2 ^ b :=
    ⟨(Nat.pow_le_pow_right (by decide) (by omega : b ≤ 15)).trans (by decide), Nat.pow_pos (by decide)⟩
  have before : (ws.map BitVec.toNat).sum =
      ((ws.map BitVec.toNat).take i).sum + ws[i].toNat + ((ws.map BitVec.toNat).drop (i + 1)).sum := by
    have same : (ws.map BitVec.toNat).set i ws[i].toNat = ws.map BitVec.toNat := by
      rw [← List.map_set, List.set_getElem_self]
    have := List.sum_set (ws.map BitVec.toNat) i ws[i].toNat
    rw [same] at this
    simpa [hi] using this
  have after : ((ws.set i (ws[i] ^^^ BitVec.twoPow 16 b)).map BitVec.toNat).sum =
      ((ws.map BitVec.toNat).take i).sum + (ws[i] ^^^ BitVec.twoPow 16 b).toNat +
        ((ws.map BitVec.toNat).drop (i + 1)).sum := by
    rw [List.map_set, List.sum_set]
    simp [hi]
  obtain ⟨-, modBefore, -⟩ := isFold_foldedSum ws
  obtain ⟨-, modAfter, -⟩ := isFold_foldedSum (ws.set i (ws[i] ^^^ BitVec.twoPow 16 b))
  rw [(validWords_iff ws).mp valid, before] at modBefore
  rw [after] at modAfter
  rw [← Bool.not_eq_true, validWords_iff]
  intro still
  rw [still] at modAfter
  have moved := xor_twoPow_toNat ws[i] hb
  generalize (ws[i] ^^^ BitVec.twoPow 16 b).toNat = x at moved modAfter
  omega

namespace Machine

/-! ### The fuses of an image -/

theorem fuseBit_eq {f : Nat} (h : f < 352) : fuseBit f = BitVec.twoPow 352 (351 - f) := by
  rw [fuseBit, if_pos h, BitVec.twoPow_eq]

theorem imageWords_getElem (x : Image) {i : Nat} (h : i < (imageWords x).length) :
    (imageWords x)[i] = x.extractLsb' (16 * (21 - i)) 16 := by
  simp [imageWords, wordsOf]

theorem imageWords_length (x : Image) : (imageWords x).length = 22 := by simp [imageWords, wordsOf]

/-- The word of an image that a fuse lies in changes in that fuse's bit, and no other word does (R68). -/
theorem imageWords_xor_fuseBit (x : Image) {f : Nat} (hf : f < 352) (hi : f / 16 < (imageWords x).length) :
    imageWords (x ^^^ fuseBit f) =
      (imageWords x).set (f / 16) ((imageWords x)[f / 16] ^^^ BitVec.twoPow 16 (15 - f % 16)) := by
  apply List.ext_getElem (by simp [imageWords_length])
  intro i h1 h2
  rw [imageWords_length] at h1
  simp only [List.getElem_set, imageWords_getElem, fuseBit_eq hf, BitVec.extractLsb'_xor]
  apply BitVec.eq_of_getLsbD_eq
  intro j hj
  by_cases here : f / 16 = i
  · subst here
    simp only [if_pos, BitVec.getLsbD_xor, BitVec.getLsbD_extractLsb', BitVec.getLsbD_twoPow, hj, decide_true,
      Bool.true_and]
    have : (351 - f = 16 * (21 - f / 16) + j) ↔ 15 - f % 16 = j := by omega
    simp [this, show 351 - f < 352 by omega, show 15 - f % 16 < 16 by omega]
  · simp only [if_neg here, BitVec.getLsbD_xor, BitVec.getLsbD_extractLsb', BitVec.getLsbD_twoPow, hj, decide_true,
      Bool.true_and]
    have : ¬351 - f = 16 * (21 - i) + j := by omega
    simp [this]

/-- A valid image with one fuse read the other way is not valid. -/
theorem imageValid_xor_fuseBit {x : Image} (valid : imageValid x = true) {f : Nat} (hf : f < 352) :
    imageValid (x ^^^ fuseBit f) = false := by
  have hi : f / 16 < (imageWords x).length := by rw [imageWords_length]; omega
  rw [imageValid, imageWords_xor_fuseBit x hf hi]
  exact validWords_set_xor valid hi (by omega)

/-! ### The fields of an assembled image -/

section
variable (n : Serial) (tag : Word) (p : Pos) (o : Word) (key : Key)

/-- A field of an assembled image is a field of its body, past the check word. -/
theorem assembleImage_extract (start len : Nat) :
    (assembleImage n tag p o key).extractLsb' (start + 16) len = (imageBody n tag p o key).extractLsb' start len := by
  rw [assembleImage, BitVec.extractLsb'_append_eq_of_le (by omega), Nat.add_sub_cancel]

theorem readSerialOf_assembleImage : readSerialOf (assembleImage n tag p o key) = n := by
  refine (assembleImage_extract n tag p o key 304 32).trans ?_
  rw [imageBody, BitVec.extractLsb'_append_eq_of_le (by omega)]
  exact BitVec.extractLsb'_eq_self

theorem readLotTag_assembleImage : readLotTag (assembleImage n tag p o key) = tag := by
  refine (assembleImage_extract n tag p o key 288 16).trans ?_
  rw [imageBody, BitVec.extractLsb'_append_eq_of_add_le (by omega), BitVec.extractLsb'_append_eq_of_le (by omega)]
  exact BitVec.extractLsb'_eq_self

theorem readPos_assembleImage : readPos (assembleImage n tag p o key) = p := by
  refine (congrArg wordPos (assembleImage_extract n tag p o key 272 16)).trans ?_
  rw [imageBody, BitVec.extractLsb'_append_eq_of_add_le (by omega), BitVec.extractLsb'_append_eq_of_add_le (by omega),
    BitVec.extractLsb'_append_eq_of_le (by omega)]
  exact (congrArg wordPos BitVec.extractLsb'_eq_self).trans (wordPos_posWord p)

theorem options_assembleImage : imageWord (assembleImage n tag p o key) 4 = o := by
  refine (assembleImage_extract n tag p o key 256 16).trans ?_
  rw [imageBody, BitVec.extractLsb'_append_eq_of_add_le (by omega), BitVec.extractLsb'_append_eq_of_add_le (by omega),
    BitVec.extractLsb'_append_eq_of_add_le (by omega), BitVec.extractLsb'_append_eq_of_le (by omega)]
  exact BitVec.extractLsb'_eq_self

theorem readKey_assembleImage : readKey (assembleImage n tag p o key) = key := by
  refine (assembleImage_extract n tag p o key 0 256).trans ?_
  rw [imageBody, BitVec.extractLsb'_append_eq_of_add_le (by omega), BitVec.extractLsb'_append_eq_of_add_le (by omega),
    BitVec.extractLsb'_append_eq_of_add_le (by omega), BitVec.extractLsb'_append_eq_of_add_le (by omega)]
  exact BitVec.extractLsb'_eq_self

end

/-- Settles O13. -/
theorem oneWrongFuseIsFound : Obligations.OneWrongFuseIsFound := fun n tag p o key _ hf =>
  ⟨imageValid_xor_fuseBit (imageValid_assembleImage n tag p o key) hf, readSerialOf_assembleImage n tag p o key,
    readLotTag_assembleImage n tag p o key, readPos_assembleImage n tag p o key, options_assembleImage n tag p o key,
    readKey_assembleImage n tag p o key⟩

end Machine
end Sys2Proof
end

section
/-!
PROOFS. The order of derivations (O14) and the draws of the serial allocator (O15). The operations of derivation unit and
journal store are tied to the two notions of the statements, `State.nextDerivation` and `Journal.begun`.
-/

namespace Sys2Proof.Machine

/-! ### The derivation unit -/

/-- A unit that is free takes what it chooses from its queue (R93). -/
theorem State.duStart_idle {s : State} (idle : s.du.current = none) :
    s.duStart = s.withDu (s.nextDerivation s.du.queue) := by
  unfold State.duStart State.nextDerivation
  cases hc : chooseEntry s.du.pointer s.du.queue with
  | none =>
    simp only [idle]
    have : s.du = { queue := s.du.queue, current := none, pointer := s.du.pointer } := by rw [← idle]
    rw [← this]
    rfl
  | some x => simp [idle]

theorem State.duPlace_eq (e : DEntry) (s : State) : s.duPlace e = s.withDu (s.placedEntry e) := by
  unfold State.placedEntry
  cases hc : s.du.current with
  | some d => simp [State.duPlace_busy hc]
  | none =>
    rw [if_pos rfl]
    exact State.duStart_idle (s := s.withDu { s.du with queue := s.du.queue ++ [e] }) hc

theorem sitesFrom_split (p : Site) (i : Fin 4) :
    ∃ before after, sitesFrom p = before ++ (p + i) :: after ∧ ∀ k ∈ before, ∃ j, j < i ∧ k = p + j := by
  fin_cases i
  · exact ⟨[], [p + 1, p + 2, p + 3], by simp [sitesFrom], by simp⟩
  · exact ⟨[p], [p + 2, p + 3], rfl, by simp⟩
  · exact ⟨[p, p + 1], [p + 3], rfl, by simp⟩
  · exact ⟨[p, p + 1, p + 2], [], rfl, by simp⟩

/-- The first site from the pointer on that has an entry is served with its oldest one (R93 step 1). -/
theorem chooseEntry_site {ptr : Site} {i : Fin 4} {before after : List DEntry} {e : DEntry}
    (earlier : ∀ j, j < i → ∀ x ∈ before ++ e :: after, x.site ≠ some (ptr + j)) (he : e.site = some (ptr + i))
    (oldest : ∀ x ∈ before, x.site ≠ some (ptr + i)) :
    chooseEntry ptr (before ++ e :: after) = some (e, before ++ after, ptr + i + 1) := by
  obtain ⟨sitesBefore, sitesAfter, split, hsites⟩ := sitesFrom_split ptr i
  have skipped : sitesBefore.findSome? (fun k =>
      (takeOldest (fun x => x.site == some k) (before ++ e :: after)).map fun x => (x.1, x.2, k + 1)) = none := by
    rw [List.findSome?_eq_none_iff]
    intro k hk
    obtain ⟨j, hj, rfl⟩ := hsites k hk
    rw [takeOldest_none fun x hx => beq_eq_false_iff_ne.mpr (earlier j hj x hx)]
    rfl
  have taken : takeOldest (fun x => x.site == some (ptr + i)) (before ++ e :: after) = some (e, before ++ after) :=
    takeOldest_first (by simp [he]) fun x hx => beq_eq_false_iff_ne.mpr (oldest x hx)
  rw [chooseEntry, split, List.findSome?_append, skipped, Option.none_or, List.findSome?_cons, taken]
  rfl

/-- Without a site entry the oldest fingerprint entry is served, and the pointer stays (R93 step 2). -/
theorem chooseEntry_fingerprint {ptr : Site} {e : DEntry} {after : List DEntry}
    (none_of_site : ∀ x ∈ e :: after, x.site = none) : chooseEntry ptr (e :: after) = some (e, after, ptr) := by
  have no_site : (sitesFrom ptr).findSome? (fun k =>
      (takeOldest (fun x => x.site == some k) (e :: after)).map fun x => (x.1, x.2, k + 1)) = none := by
    rw [List.findSome?_eq_none_iff]
    intro k _
    rw [takeOldest_none fun x hx => by simp [none_of_site x hx]]
    rfl
  have fingerprint : e.isFingerprint = true := by
    have := none_of_site e (by simp)
    cases e with
    | fingerprint => rfl
    | slot | adopt => cases this
  rw [chooseEntry, no_site]
  simp [takeOldest, fingerprint]

theorem chooseEntry_nil (ptr : Site) : chooseEntry ptr [] = none := rfl

/-- Settles O14. -/
theorem derivationsAreServedRoundRobin : Obligations.DerivationsAreServedRoundRobin := by
  refine ⟨fun ptr q => ⟨?site, ?fingerprint, ?empty⟩, fun x s => ⟨?busy, ?idle⟩⟩
  case site =>
    rintro i before after e earlier rfl he oldest
    exact chooseEntry_site earlier he oldest
  case fingerprint =>
    rintro e after rfl no_site
    exact chooseEntry_fingerprint no_site
  case empty => rintro rfl; exact chooseEntry_nil ptr
  case busy => exact fun d busy => State.duPlace_busy busy x
  case idle =>
    intro e rest p secret idle held chosen
    rw [State.duPlace_eq, State.placedEntry, if_pos idle, State.nextDerivation, chosen, held]
    rfl

/-! ### The journal's next write -/

theorem State.jsStart_eq (s : State) : s.jsStart = s.withJs (Journal.begun s.sa.mark s.js) := by
  unfold State.jsStart Journal.begun
  cases hq : s.js.queue with
  | nil => rfl
  | cons e rest =>
    dsimp only
    cases hw : s.js.write with
    | some w => simp; rfl
    | none => cases hh : s.js.held <;> cases hs : s.js.stopped <;> simp <;> rfl

theorem State.jsPlace_eq (es : List JEntry) (s : State) :
    s.jsPlace es = s.withJs (Journal.begun s.sa.mark { s.js with queue := s.js.queue ++ es }) :=
  State.jsStart_eq _

/-! ### Draws -/

theorem State.windowAllows_iff {s : State} :
    s.windowAllows = true ↔ 16 * (s.sa.mark + s.sa.outstanding) < s.lc.header.count.toNat := by
  simp only [State.windowAllows, decide_eq_true_eq]
  omega

theorem State.queueAdvance_eq (k : Site) (s : State) :
    s.queueAdvance k = (s.withSa { s.sa with
      outstanding := s.sa.outstanding + 1
      blocks := s.sa.blocks.set k { s.sa.blocks.get k with next := .pending } }).withJs
        (Journal.begun s.sa.mark { s.js with queue := s.js.queue ++ [.advance k] }) :=
  State.jsPlace_eq _ _

theorem State.setExhausted_eq {s : State} (clear : s.sa.exhausted = false) :
    s.setExhausted = (s.withSa { s.sa with exhausted := true }).withFu
      { s.fu with flags := { s.fu.flags with exhausted := true } } := by
  simp [State.setExhausted, clear]
  rfl

/-- The state of a draw before its prefetch test: the block stands one further, and the serial is counted (R24, R35). -/
def State.drawnFrom (k : Site) (b : Block) (next : NextBlock) (s : State) : State :=
  s.withSa { s.sa with
    drawn := s.sa.drawn + 1
    blocks := s.sa.blocks.set k { current := some { b with next := b.next + 1 }, next := next } }

theorem State.takeSerial_eq (k : Site) (b : Block) (next : NextBlock) (s : State) :
    s.takeSerial k b next = (s.drawnFrom k b next).prefetch k := rfl

theorem State.drawnFrom_blocks (k : Site) (b : Block) (next : NextBlock) (s : State) :
    (s.drawnFrom k b next).sa.blocks.get k = { current := some { b with next := b.next + 1 }, next := next } :=
  Four.get_set_same _ _ _

theorem State.drawnFrom_other {j k : Site} (h : j ≠ k) (b : Block) (next : NextBlock) (s : State) :
    (s.drawnFrom k b next).sa.blocks.get j = s.sa.blocks.get j := Four.get_set_ne _ _ h

theorem State.prefetchDue_drawnFrom {k : Site} {b : Block} {next : NextBlock} {s : State} :
    (s.drawnFrom k b next).prefetchDue k = true ↔
      next = .absent ∧ b.stop ≤ b.next + 5 ∧ s.sa.exhausted = false ∧ s.pwrwarn = false := by
  unfold State.prefetchDue
  rw [State.drawnFrom_blocks]
  simp only [State.drawnFrom, State.withSa_sa, State.withSa_pwrwarn, Bool.and_eq_true, decide_eq_true_eq, beq_iff_eq,
    Bool.not_eq_true', and_assoc]
  constructor
  · rintro ⟨h1, h2, h3, h4⟩; exact ⟨h2, by omega, h3, h4⟩
  · rintro ⟨h2, h1, h3, h4⟩; exact ⟨by omega, h2, h3, h4⟩

theorem SiteBlocks.usable_eq_none {b : SiteBlocks}
    (h : b.current = none ∨ ∃ c, b.current = some c ∧ c.stop ≤ c.next) : b.usable = none := by
  unfold SiteBlocks.usable
  rcases h with h | ⟨c, h, empty⟩
  · rw [h]
  · rw [h]; exact if_neg (Nat.not_lt.mpr empty)

/-- The draw of a serial from the block `c`, the site's current one or its READY one, with `n` behind it. -/
theorem State.draw_block {k : Site} {s : State} {c : Block} {n : NextBlock}
    (h : ((s.sa.blocks.get k).current = some c ∧ c.next < c.stop ∧ n = (s.sa.blocks.get k).next) ∨
      (((s.sa.blocks.get k).current = none ∨ ∃ x, (s.sa.blocks.get k).current = some x ∧ x.stop ≤ x.next) ∧
        (s.sa.blocks.get k).next = .ready c.next c.stop ∧ n = .absent)) :
    s.draw k = (s.takeSerial k c n, .drawn (BitVec.ofNat 32 c.next)) := by
  rcases h with ⟨current, left, rfl⟩ | ⟨empty, ready, rfl⟩
  · exact State.draw_usable current left
  · rw [State.draw_unusable (SiteBlocks.usable_eq_none empty), ready]

/-- Settles O15: `drawnFrom` is the draw, and the prefetch that may follow it is `queueAdvance` or `setExhausted`. -/
theorem drawFollowsTheBlocks : Obligations.DrawFollowsTheBlocks := by
  rintro k s b rfl
  refine ⟨fun c n h => ⟨s.takeSerial k c n, State.draw_block h, ?_⟩, fun empty => ?_⟩
  · rw [State.takeSerial_eq, State.prefetch]
    by_cases due : n = .absent ∧ c.stop ≤ c.next + 5 ∧ s.sa.exhausted = false ∧ s.pwrwarn = false
    · rw [if_pos (State.prefetchDue_drawnFrom.mpr due)]
      by_cases room : 16 * (s.sa.mark + s.sa.outstanding) < s.lc.header.count.toNat
      · have allowed : (s.drawnFrom k c n).windowAllows = true := State.windowAllows_iff.mpr room
        rw [if_pos allowed, State.queueAdvance_eq, State.drawnFrom_blocks]
        refine ⟨rfl, rfl, ?_, fun j hj => ?_, fun _ => ⟨fun _ => ⟨?_, rfl, due.2.2.1, rfl, rfl⟩, fun full => ?_⟩,
          fun undue => absurd due undue, rfl⟩
        · simp
        · simp [hj, State.drawnFrom_other]
        · simp
        · exact absurd room (Nat.not_lt.mpr full)
      · have full : (s.drawnFrom k c n).windowAllows ≠ true := fun h => room (State.windowAllows_iff.mp h)
        rw [if_neg full, State.setExhausted_eq (by exact due.2.2.1)]
        refine ⟨rfl, rfl, ?_, fun j hj => State.drawnFrom_other hj .., fun _ => ⟨fun h => absurd h room, fun _ =>
          ⟨?_, rfl, rfl, rfl, rfl⟩⟩, fun undue => absurd due undue, rfl⟩
        · exact congrArg SiteBlocks.current (State.drawnFrom_blocks k c n s)
        · exact (congrArg SiteBlocks.next (State.drawnFrom_blocks k c n s)).trans due.1
    · rw [if_neg fun h => due (State.prefetchDue_drawnFrom.mp h)]
      exact ⟨rfl, rfl, congrArg SiteBlocks.current (State.drawnFrom_blocks k c n s),
        fun j hj => State.drawnFrom_other hj .., fun h => absurd h due,
        fun _ => ⟨congrArg SiteBlocks.next (State.drawnFrom_blocks k c n s), rfl, rfl, rfl, rfl⟩, rfl⟩
  · rw [State.draw_unusable (SiteBlocks.usable_eq_none empty)]
    refine ⟨fun pending => ?_, fun absent refused => ?_, fun absent clear room => ?_, fun absent clear full => ?_⟩
    · rw [pending]
    · rw [absent]; exact if_pos refused
    · rw [absent]
      simp only [clear, State.windowAllows_iff.mpr room, State.queueAdvance_eq, Bool.false_eq_true, if_false, if_true]
      rfl
    · rw [absent]
      have : s.windowAllows = false := by
        rw [← Bool.not_eq_true, State.windowAllows_iff]; omega
      simp only [clear, this, State.setExhausted_eq clear, Bool.false_eq_true, if_false]
      rfl

end Sys2Proof.Machine
end

section
/-!
PROOFS. Requests: what the checks before a request do (O18), a PREPARE that passes them (O17) and a message that fails
its framing (O23).
-/

namespace Sys2Proof

theorem Four.any_toList {α : Type} {f : Four α} {p : α → Bool} :
    f.toList.any p = true ↔ ∃ k, p (f.get k) = true := by
  simp only [Four.toList, List.any_cons, List.any_nil, Bool.or_false, Bool.or_eq_true]
  constructor
  · rintro (h | h | h | h)
    · exact ⟨0, h⟩
    · exact ⟨1, h⟩
    · exact ⟨2, h⟩
    · exact ⟨3, h⟩
  · rintro ⟨k, h⟩
    fin_cases k
    · exact .inl h
    · exact .inr (.inl h)
    · exact .inr (.inr (.inl h))
    · exact .inr (.inr (.inr h))

namespace Machine

@[simp] theorem State.place_site (a : Access) (j k : Site) (s : State) : (s.place a k).site j = s.site j := rfl

/-! ### The checks of a site request -/

theorem exec_prepare {s : State} (powered : s.powered = true) (k : Site) (tag : Byte) (p : Pos) :
    exec (.prepare k tag p) s =
      .next (s.siteRequest k 0x01 tag (s.site k).cmd.isSome (State.takePrepare k tag p)) :=
  congrArg _ (State.live_powered powered _)

theorem exec_release {s : State} (powered : s.powered = true) (k : Site) (tag : Byte) (p : Pos) :
    exec (.release k tag p) s =
      .next (s.siteRequest k 0x02 tag (s.site k).cmd.isSome (State.takeRelease k tag p)) :=
  congrArg _ (State.live_powered powered _)

theorem exec_burn {s : State} (powered : s.powered = true) (k : Site) (tag : Byte) (p : Pos) :
    exec (.burn k tag p) s =
      .next (s.siteRequest k 0x03 tag (s.site k).burn.isSome (State.takeBurn k tag p)) :=
  congrArg _ (State.live_powered powered _)

theorem exec_abort {s : State} (powered : s.powered = true) (k : Site) (tag : Byte) :
    exec (.abort k tag) s = .next (s.siteRequest k 0x04 tag false (State.takeAbort k tag)) :=
  congrArg _ (State.live_powered powered _)

theorem exec_status {s : State} (powered : s.powered = true) (k : Site) (tag : Byte) :
    exec (.status k tag) s = .next (s.answerStatus k tag) :=
  congrArg _ (State.live_powered powered _)

section
variable {k : Site} {s : State}

theorem State.siteRequest_full (full : s.full (.site k) = true) (kind tag : Byte) (busy : Bool) (act : State → State) :
    s.siteRequest k kind tag busy act = s.report 11 (some k) none kind := if_pos full

theorem State.siteRequest_stopped (room : s.full (.site k) = false) (stopped : s.fu.partStopped = true)
    (kind tag : Byte) (busy : Bool) (act : State → State) :
    s.siteRequest k kind tag busy act = s.reply (.site k) ⟨kind, tag, [18]⟩ := by
  simp [State.siteRequest, room, stopped, State.siteReply, Code.word]

theorem State.siteRequest_disabled (room : s.full (.site k) = false) (running : s.fu.partStopped = false)
    (disabled : (s.site k).enabled = false) (kind tag : Byte) (busy : Bool) (act : State → State) :
    s.siteRequest k kind tag busy act = s.reply (.site k) ⟨kind, tag, [19]⟩ := by
  simp [State.siteRequest, room, running, disabled, State.siteReply, Code.word]

end

/-! ### The gates of site work -/

theorem State.Admits.gate {p : Pos} {s : State} (admits : s.Admits p) : s.lc.gate p = none := by
  obtain ⟨lot, wafer, column, row⟩ := admits
  simp [LotController.gate, LotController.inGrid, lot, wafer, column, row]

theorem LotController.gate_lot {lc : LotController} (h : lc.lotState ≠ .isOpen) (p : Pos) :
    lc.gate p = some .lotNotOpen := if_pos h

theorem LotController.gate_wafer {lc : LotController} (lot : lc.lotState = .isOpen) (h : lc.wafer ≠ .active) (p : Pos) :
    lc.gate p = some .noWafer := by simp [LotController.gate, lot, h]

theorem LotController.gate_grid {lc : LotController} {p : Pos} (lot : lc.lotState = .isOpen) (wafer : lc.wafer = .active)
    (h : lc.cols ≤ p.col.toNat ∨ lc.rows ≤ p.row.toNat) : lc.gate p = some .outOfGrid := by
  simpa [LotController.gate, LotController.inGrid, lot, wafer, Nat.not_lt, imp_iff_not_or] using h

/-- PREPARE, RELEASE and BURN on free lanes that a gate refuses are answered with the gate's code alone. -/
theorem exec_site_gated {k : Site} {s : State} {p : Pos} {c : Code} (ready : s.SiteReady k)
    (cmd : (s.site k).cmd = none) (burn : (s.site k).burn = none) (gate : s.lc.gate p = some c) (tag : Byte) :
    exec (.prepare k tag p) s = .next (s.reply (.site k) ⟨0x01, tag, [c.word]⟩) ∧
    exec (.release k tag p) s = .next (s.reply (.site k) ⟨0x02, tag, [c.word]⟩) ∧
    exec (.burn k tag p) s = .next (s.reply (.site k) ⟨0x03, tag, [c.word]⟩) := by
  rw [exec_prepare ready.powered, exec_release ready.powered, exec_burn ready.powered, cmd, burn]
  simp only [Option.isSome_none, State.siteRequest_ready ready, State.takePrepare, State.takeRelease, State.takeBurn,
    gate, State.siteReply, and_self]

/-! ### The checks of a supervisor request -/

/-- Every supervisor request other than READ STATUS passes the checks of `supRequest`. -/
theorem exec_supervisor {r : SupReq} (h : r.kind ≠ 0x31) (tag : Byte) {s : State} (powered : s.powered = true) :
    ∃ act, exec (r.instr tag) s = .next (s.supRequest r.kind tag act) := by
  cases r
  case readStatus => exact absurd rfl h
  all_goals exact ⟨_, congrArg _ (State.live_powered powered _)⟩

theorem exec_readStatus {s : State} (powered : s.powered = true) (tag : Byte) :
    exec (.readStatus tag) s = .next (s.answerReadStatus tag) :=
  congrArg _ (State.live_powered powered _)

theorem takenInStop_iff (kind : Byte) : takenInStop kind = true ↔ kind ∈ [(0x2E : Byte), 0x2F, 0x30, 0x32, 0x33, 0x34] := by
  revert kind
  decide

section
variable {s : State}

theorem State.supRequest_full (full : s.full .supervisor = true) (kind tag : Byte) (act : State → State) :
    s.supRequest kind tag act = s.report 11 none none kind := if_pos full

theorem State.supRequest_busy {kind : Byte} (room : s.full .supervisor = false) (busy : s.sup.lane ≠ none)
    (passes : s.fu.partStopped = false ∨ takenInStop kind = true) (tag : Byte) (act : State → State) :
    s.supRequest kind tag act = s.reply .supervisor ⟨kind, tag, [16]⟩ := by
  have lane : s.sup.lane.isSome = true := Option.isSome_iff_ne_none.mpr busy
  rcases passes with running | taken
  · simp [State.supRequest, room, running, lane, State.supReply, Code.word]
  · simp [State.supRequest, room, taken, lane, State.supReply, Code.word]

end

/-- Settles O18: each check is one branch of `supRequest` and `siteRequest`, in the order of the branches. -/
theorem requestsAreRefusedInOrder : Obligations.RequestsAreRefusedInOrder := by
  constructor
  · rintro r tag kind s powered rfl
    change (_ → exec (r.instr tag) s = .next (s.report 11 none none r.kind)) ∧ _
    by_cases status : r.kind = 0x31
    · have kind : (r.message tag).kind = 0x31 := status
      refine ⟨fun full => ?_, fun _ _ out => absurd (kind ▸ by simp) out, fun _ _ other => absurd kind other⟩
      cases r
      case readStatus => exact (exec_readStatus powered tag).trans (congrArg _ (if_pos full))
      all_goals simp [SupReq.kind] at status
    · obtain ⟨act, run⟩ := exec_supervisor status tag powered
      rw [run]
      refine ⟨fun full => ?_, fun room stopped out => ?_, fun room busy _ passes => ?_⟩
      · rw [State.supRequest_full full]
      · have refused : takenInStop r.kind = false := by
          rw [← Bool.not_eq_true, takenInStop_iff]
          intro taken
          refine out (show r.kind ∈ _ from ?_)
          simp only [List.mem_cons] at taken ⊢
          tauto
        rw [State.supRequest_stopped room stopped refused]
        rfl
      · rw [State.supRequest_busy room busy (passes.imp_right (takenInStop_iff r.kind).mpr)]
        rfl
  · intro k tag p s powered
    refine ⟨fun full => ?_, fun room stopped => ?_, fun room running disabled => ?_, fun ready => ⟨fun busy => ?_,
      fun busy => ?_, fun cmd burn => ⟨fun lot => ?_, fun lot wafer => ?_, fun lot wafer out => ?_⟩⟩⟩
    · rw [exec_prepare powered, exec_release powered, exec_burn powered, exec_abort powered, exec_status powered]
      simp only [State.siteRequest_full full, State.answerStatus, if_pos full, and_self]
    · rw [exec_prepare powered, exec_release powered, exec_burn powered, exec_abort powered]
      simp only [State.siteRequest_stopped room stopped, and_self]
    · rw [exec_prepare powered, exec_release powered, exec_burn powered, exec_abort powered]
      simp only [State.siteRequest_disabled room running disabled, and_self]
    · rw [exec_prepare powered, exec_release powered, Option.isSome_iff_ne_none.mpr busy]
      exact ⟨congrArg _ (State.siteRequest_busy ready ..), congrArg _ (State.siteRequest_busy ready ..)⟩
    · rw [exec_burn powered, Option.isSome_iff_ne_none.mpr busy]
      exact congrArg _ (State.siteRequest_busy ready ..)
    · exact exec_site_gated ready cmd burn (LotController.gate_lot lot p) tag
    · exact exec_site_gated ready cmd burn (LotController.gate_wafer lot wafer p) tag
    · exact exec_site_gated ready cmd burn (LotController.gate_grid lot wafer out) tag

/-! ### Watch tests -/

theorem State.watchHolds_iff {m : WatchContent → Bool} {s : State} :
    s.watchHolds m = true ↔ ∃ e, m (s.wt.get e).content = true ∧ (s.wt.get e).hold = true := by
  simp only [State.watchHolds, Four.any_toList, Bool.and_eq_true]

/-- What watch tests write: the hits, and the WATCH flag when there is one. -/
theorem State.watchHits_eq (m : WatchContent → Bool) (s : State) :
    s.watchHits m = (s.withWt (s.wt.map fun e => if m e.content then e.hit else e)).withFu
      (if ∃ e, m (s.wt.get e).content = true then { s.fu with flags := { s.fu.flags with watch := true } } else s.fu) := by
  unfold State.watchHits
  by_cases hit : ∃ e, m (s.wt.get e).content = true
  · rw [if_pos hit]
    exact if_pos (Four.any_toList.mpr hit)
  · rw [if_neg hit]
    exact if_neg fun h => hit (Four.any_toList.mp h)

theorem WatchContent.atPos_iff {p : Pos} {c : WatchContent} : c.atPos p = true ↔ c = .position p := by
  cases c <;> simp [WatchContent.atPos]

theorem WatchContent.atSerial_iff {n : Serial} {c : WatchContent} : c.atSerial n = true ↔ c = .serial n := by
  cases c <;> simp [WatchContent.atSerial]

/-! ### A PREPARE that is taken -/

theorem exec_prepare_free {k : Site} {s : State} (ready : s.SiteReady k) (free : (s.site k).cmd = none) (tag : Byte)
    (p : Pos) : exec (.prepare k tag p) s = .next (s.takePrepare k tag p) := by
  rw [exec_prepare ready.powered, free]
  exact congrArg _ (State.siteRequest_ready ready ..)

/-- Settles O17: the watch tests, the lane, and the lookup access unless a HOLD entry matched. -/
theorem prepareIsTaken : Obligations.PrepareIsTaken := by
  intro k tag p s ready admits free
  refine ⟨s.takePrepare k tag p, exec_prepare_free ready free tag p, ?_⟩
  have entry (e : Site) : (s.wt.map fun x => if x.content = .position p then x.hit else x).get e =
      if (s.wt.get e).content = .position p then { s.wt.get e with hits := min 255 ((s.wt.get e).hits + 1) }
      else s.wt.get e := Four.get_map _ _ e
  have holds : s.watchHolds (WatchContent.atPos p) = true ↔
      ∃ e, (s.wt.get e).content = .position p ∧ (s.wt.get e).hold = true := by
    simp only [State.watchHolds_iff, WatchContent.atPos_iff]
  simp only [State.takePrepare, admits.gate, State.watchHits_eq, WatchContent.atPos_iff]
  by_cases held : ∃ e, (s.wt.get e).content = .position p ∧ (s.wt.get e).hold = true
  · simp only [if_pos held, if_pos (holds.mpr held)]
    exact ⟨State.modSite_site .., fun j hj => State.modSite_site_ne _ _ hj, rfl, entry, rfl, rfl⟩
  · simp only [if_neg held, if_neg (mt holds.mp held)]
    exact ⟨(State.place_site ..).trans (State.modSite_site ..),
      fun j hj => (State.place_site ..).trans (State.modSite_site_ne _ _ hj), rfl, entry, rfl, rfl⟩

/-! ### A message that fails its framing -/

theorem exec_frameError {s : State} (powered : s.powered = true) (l : Link) (m : List Word) :
    exec (.frameError l m) s = .next (s.brokenMessage l m) :=
  congrArg _ (State.live_powered powered _)

theorem exec_frameError_bad {s : State} {l : Link} {m : List Word} {kind tag : Byte} (powered : s.powered = true)
    (whole : wholeMessage m = true) (bad : checkFrame l m = .bad kind tag) :
    exec (.frameError l m) s = .next (s.frameError l kind tag) := by
  rw [exec_frameError powered, State.brokenMessage, bad]
  simp [whole]

section
variable {l : Link} {m : List Word}

theorem checkFrame_sum (h : foldedSum m ≠ 65535) : checkFrame l m = .bad 0 (loByte (m.headD 0)) := by
  have : validWords m = false := by rw [← Bool.not_eq_true, validWords_iff]; exact h
  simp [checkFrame, this]

theorem checkFrame_kind (valid : foldedSum m = 65535) (h : bodyLength l (hiByte (m.headD 0)) = none) :
    checkFrame l m = .bad 0 (loByte (m.headD 0)) := by
  simp only [checkFrame, (validWords_iff m).mpr valid, h, Bool.not_true, Bool.false_eq_true, if_false]

theorem checkFrame_length {n : Nat} (valid : foldedSum m = 65535) (kind : bodyLength l (hiByte (m.headD 0)) = some n)
    (h : m.length - 3 ≠ n) : checkFrame l m = .bad (hiByte (m.headD 0)) (loByte (m.headD 0)) := by
  have : ((m.drop 2).dropLast).length ≠ n := by simpa [Nat.sub_sub] using h
  simp only [checkFrame, (validWords_iff m).mpr valid, kind, if_pos this]
  simp

end

theorem three_le_of_wholeMessage {m : List Word} (h : wholeMessage m = true) : 3 ≤ m.length := by
  match m, h with
  | _ :: len :: rest, h =>
    have : rest.length = len.toNat + 1 := by simp [wholeMessage] at h; exact h.2
    simp [this]

/-- Settles O23: which check fails gives the echo; reply and fault are those of `frameError`. -/
theorem brokenMessagesAreReported : Obligations.BrokenMessagesAreReported := by
  intro l m s powered whole
  refine ⟨fun sum => ?_, fun valid kind => ?_, fun n valid kind length => ?_⟩
  · exact exec_frameError_bad powered whole (checkFrame_sum sum)
  · exact exec_frameError_bad powered whole (checkFrame_kind valid kind)
  · have := three_le_of_wholeMessage whole
    exact exec_frameError_bad powered whole (checkFrame_length valid kind (by omega))

end Machine
end Sys2Proof
end

section
/-!
PROOFS. The receivers, the gap timeout and sent replies (O24), and the two requests that read the state (O22).
-/

namespace Sys2Proof

theorem bytesOf_cons (w : Word) (ws : List Word) : bytesOf (w :: ws) = hiByte w :: loByte w :: bytesOf ws := rfl

theorem bytesOf_length (ws : List Word) : (bytesOf ws).length = 2 * ws.length := by
  induction ws with
  | nil => rfl
  | cons w ws ih => rw [bytesOf_cons, List.length_cons, List.length_cons, ih, List.length_cons]; omega

theorem Message.wholeMessage_words {m : Message} (h : m.body.length ≤ 1024) : wholeMessage m.words = true := by
  have len : (wordOf m.body.length).toNat = m.body.length := wordOf_toNat (by omega)
  simp [wholeMessage, Message.words, Message.head, len, h]

theorem SiteReq.body_length_le (r : SiteReq) : r.body.length ≤ 1024 := by cases r <;> simp [SiteReq.body]

theorem SupReq.body_length_le (r : SupReq) : r.body.length ≤ 1024 := by
  cases r <;> simp [SupReq.body, keyWords_length]

namespace Machine

/-! ### Receiver and transmitter of a link -/

@[simp] theorem State.io_withIo (l : Link) (x : LinkIo) (s : State) : (s.withIo l x).io l = x := by
  cases l with
  | site k => exact congrArg SiteLink.io (State.modSite_site k _ s)
  | supervisor => rfl

theorem State.io_withIo_ne {l m : Link} (h : m ≠ l) (x : LinkIo) (s : State) : (s.withIo l x).io m = s.io m := by
  cases l with
  | supervisor =>
    cases m with
    | supervisor => exact absurd rfl h
    | site j => rfl
  | site k =>
    cases m with
    | supervisor => rfl
    | site j => exact congrArg SiteLink.io (State.modSite_site_ne _ s fun e => h (congrArg Link.site e))

/-- Replacing a link's receiver and transmitter changes nothing else of a link, and no other part of the state. -/
theorem State.withIo_frame (l : Link) (x : LinkIo) (s : State) :
    (s.withIo l x).sup.lane = s.sup.lane ∧ (∀ k, { (s.withIo l x).site k with io := (s.site k).io } = s.site k) ∧
    { s.withIo l x with sites := s.sites, sup := s.sup } = s := by
  cases l with
  | supervisor => exact ⟨rfl, fun _ => rfl, rfl⟩
  | site k =>
    refine ⟨rfl, fun j => ?_, rfl⟩
    by_cases h : j = k
    · subst h
      exact congrArg (fun sl : SiteLink => { sl with io := (s.site j).io }) (State.modSite_site j _ s)
    · exact congrArg (fun sl : SiteLink => { sl with io := (s.site j).io }) (State.modSite_site_ne _ s h)

@[simp] theorem State.withIo_powered (l : Link) (x : LinkIo) (s : State) : (s.withIo l x).powered = s.powered := by
  cases l <;> rfl

/-! ### A byte arrives -/

theorem exec_byteReceived {s : State} (powered : s.powered = true) (l : Link) (b : Byte) :
    exec (.byteReceived l b) s = byteArrived l b s := if_pos powered

section
variable {l : Link} {b : Byte} {s : State}

/-- A byte that completes no message is added. -/
theorem byteArrived_adds (rx : (s.io l).rx ≠ .discard)
    (more : ¬(((s.io l).collect b).rx = .collect ∧ ((s.io l).collect b).wholeIn = true)) :
    byteArrived l b s = .next (s.withIo l ((s.io l).collect b)) := by
  unfold byteArrived
  split
  · next h => exact absurd h rx
  · exact if_neg more
  · exact if_neg more

/-- The byte that completes a whole message has it taken in the same step (log 5). -/
theorem byteArrived_whole {m : List Word} (rx : (s.io l).rx = .collect) (bytes : (s.io l).buf ++ [b] = bytesOf m)
    (whole : wholeMessage m = true) :
    byteArrived l b s = takeWhole l m (s.withIo l { s.io l with rx := .await, buf := [], gap := 0 }) := by
  obtain ⟨w, len, rest, rfl⟩ : ∃ w len rest, m = w :: len :: rest := by
    match m, whole with
    | w :: len :: rest, _ => exact ⟨w, len, rest, rfl⟩
  simp only [wholeMessage, Bool.and_eq_true, decide_eq_true_eq] at whole
  obtain ⟨short, length⟩ := whole
  have word : LinkIo.bodyWord (bytesOf (w :: len :: rest)) = len.toNat := by
    change (joinBytes (hiByte len) (loByte len)).toNat = _
    rw [joinBytes_hi_lo]
  have size : (bytesOf (w :: len :: rest)).length = 2 * (len.toNat + 3) := by
    rw [bytesOf_length, List.length_cons, List.length_cons, length]
  have collected : (s.io l).collect b = { s.io l with rx := .collect, buf := bytesOf (w :: len :: rest), gap := 0 } := by
    simp only [LinkIo.collect, bytes, word, if_neg (show ¬(4 ≤ (bytesOf (w :: len :: rest)).length ∧ 1024 < len.toNat) by omega)]
  have complete : ((s.io l).collect b).rx = .collect ∧ ((s.io l).collect b).wholeIn = true := by
    rw [collected]
    simp only [LinkIo.wholeIn, word, size, true_and, decide_true, Bool.and_true, decide_eq_true_eq]
    omega
  unfold byteArrived
  rw [rx]
  simp only [if_pos complete]
  rw [collected, wordsOfBytes_bytesOf]
  rfl

end

/-- A well-framed message of a request runs the request's own command. -/
theorem takeWhole_site (k : Site) (tag : Byte) (r : SiteReq) (s : State) :
    takeWhole (.site k) (r.message tag).words s = exec (r.instr k tag) s := by
  rw [takeWhole, checkFrame_words (r.bodyLength_message k tag)]
  simp only [takeMessage, decodeSite_message]
  exact takeSiteMessage_eq k tag r s

theorem takeWhole_supervisor (tag : Byte) (r : SupReq) (s : State) :
    takeWhole .supervisor (r.message tag).words s = exec (r.instr tag) s := by
  rw [takeWhole, checkFrame_words (r.bodyLength_message tag)]
  simp only [takeMessage, decodeSup_message]
  exact takeSupMessage_eq tag r s

/-! ### The gap timeout -/

section
variable (l : Link) (kind tag : Byte) (s : State)

theorem State.frameError_io :
    (s.frameError l kind tag).io l =
      if s.full l then s.io l else { s.io l with replies := (s.io l).replies ++ [⟨kind, tag, [17]⟩] } := by
  have report (t : State) : (t.report 11 (faultSite l) none kind).io l = t.io l := by cases l <;> rfl
  rw [State.frameError, report]
  split
  · rfl
  · exact State.io_withIo l _ s

theorem State.frameError_io_ne {m : Link} (h : m ≠ l) : (s.frameError l kind tag).io m = s.io m := by
  have report (t : State) : (t.report 11 (faultSite l) none kind).io m = t.io m := by cases m <;> rfl
  rw [State.frameError, report]
  split
  · rfl
  · exact State.io_withIo_ne h _ s

/-- A FRAME ERROR changes a reply queue and the fault unit alone. -/
theorem State.frameError_frame :
    (s.frameError l kind tag).sup.lane = s.sup.lane ∧
    (∀ k, { (s.frameError l kind tag).site k with io := (s.site k).io } = s.site k) ∧
    (s.frameError l kind tag).fu = s.fu.take ⟨11, faultSite l, none, kind, s.lc.clock⟩ ∧
    { s.frameError l kind tag with sites := s.sites, sup := s.sup, fu := s.fu } = s := by
  unfold State.frameError
  split
  · exact ⟨rfl, fun _ => rfl, rfl, rfl⟩
  · obtain ⟨lane, sites, -⟩ := State.withIo_frame l ((s.io l).push ⟨kind, tag, [17]⟩) s
    exact ⟨lane, sites, by cases l <;> rfl, by cases l <;> rfl⟩

end

theorem LinkIo.partialTag_eq (io : LinkIo) : io.partialTag = if 2 ≤ io.buf.length then io.buf.getD 1 0 else 0 := by
  rw [LinkIo.partialTag]
  split
  · rfl
  · exact List.getD_eq_default _ _ (by omega)

theorem State.gapExpired_eq {l : Link} {s : State} (h : (s.io l).rx ≠ .await) :
    s.gapExpired l = (s.frameError l 0 (s.io l).partialTag).withIo l
      ((s.frameError l 0 (s.io l).partialTag).io l).await := by
  unfold State.gapExpired
  split
  · next e => exact absurd e h
  all_goals rfl

theorem exec_gapTimeout {s : State} (powered : s.powered = true) (l : Link) :
    exec (.gapTimeout l) s = .next (s.gapExpired l) := congrArg _ (State.live_powered powered _)

theorem exec_replySent {s : State} (powered : s.powered = true) (l : Link) :
    exec (.replySent l) s = .next (s.withIo l (s.io l).sent) := congrArg _ (State.live_powered powered _)

/-- The reply places in use of a link whose oldest reply has been sent. -/
theorem State.placesInUse_sent {l : Link} {m : Message} {rest : List Message} {s : State}
    (h : (s.io l).replies = m :: rest) :
    (s.withIo l { s.io l with replies := rest }).placesInUse l + 1 = s.placesInUse l := by
  cases l with
  | supervisor =>
    have h : s.sup.io.replies = m :: rest := h
    simp only [State.placesInUse, State.withIo, State.withSup_sup, h, List.length_cons]
    omega
  | site k =>
    have h : (s.site k).io.replies = m :: rest := h
    change ((s.modSite k _).site k).places + 1 = (s.site k).places
    rw [State.modSite_site]
    simp only [SiteLink.places, h, List.length_cons]
    omega

/-- Settles O24: the bytes by the length of what is collected, the timeout as a FRAME ERROR before a receiver at rest. -/
theorem receiversFollowTheLine : Obligations.ReceiversFollowTheLine := by
  refine ⟨fun s powered => ⟨?first, ?short, ?fourth, ?longer, ?discarded, ?site, ?supervisor, ?bad⟩, ?gap, ?sent⟩
  case first =>
    intro l b rx buf
    have added : (s.io l).collect b = { s.io l with rx := .collect, buf := [b], gap := 0 } := by
      simp [LinkIo.collect, buf]
    rw [exec_byteReceived powered, byteArrived_adds (by simp [rx]) (by simp [added, LinkIo.wholeIn]), added]
  case short =>
    intro l b rx short
    have added : (s.io l).collect b = { s.io l with buf := (s.io l).buf ++ [b], gap := 0 } := by
      have : ¬4 ≤ (s.io l).buf.length + 1 := by omega
      simp [LinkIo.collect, this, rx]
    have more : ¬4 ≤ (s.io l).buf.length + 1 := by omega
    rw [exec_byteReceived powered, byteArrived_adds (by simp [rx]) (by simp [added, LinkIo.wholeIn, more]), added]
  case fourth =>
    intro l b x y z rx buf
    have added : (s.io l).collect b = { s.io l with
        rx := if 1024 < (joinBytes z b).toNat then .discard else .collect, buf := [x, y, z, b], gap := 0 } := by
      simp [LinkIo.collect, buf, LinkIo.bodyWord]
    rw [exec_byteReceived powered, byteArrived_adds (by simp [rx]) ?_, added]
    rw [added]
    rintro ⟨-, whole⟩
    simp [LinkIo.wholeIn, LinkIo.bodyWord] at whole
    omega
  case longer =>
    intro l b w x y z rest rx buf small length
    have added : (s.io l).collect b = { s.io l with buf := (s.io l).buf ++ [b], gap := 0 } := by
      have : ¬1024 < (joinBytes y z).toNat := by omega
      simp [LinkIo.collect, LinkIo.bodyWord, buf, this, rx]
    rw [exec_byteReceived powered, byteArrived_adds (by simp [rx]) ?_, added]
    rw [added, buf]
    simp only [LinkIo.wholeIn, LinkIo.bodyWord, List.cons_append, List.length_cons, List.length_append, List.length_nil,
      Bool.and_eq_true, decide_eq_true_eq, List.getD_cons_succ, List.getD_cons_zero]
    omega
  case discarded =>
    intro l b rx
    rw [exec_byteReceived powered, byteArrived, rx]
  case site =>
    intro k tag r b rx bytes
    rw [exec_byteReceived powered, byteArrived_whole rx bytes (Message.wholeMessage_words r.body_length_le)]
    exact takeWhole_site k tag r _
  case supervisor =>
    intro tag r b rx bytes
    rw [exec_byteReceived powered, byteArrived_whole rx bytes (Message.wholeMessage_words r.body_length_le)]
    exact takeWhole_supervisor tag r _
  case bad =>
    intro l m kind tag b rx bytes whole bad
    rw [exec_byteReceived powered, byteArrived_whole rx bytes whole, takeWhole, bad,
      exec_frameError_bad (by simpa using powered) whole bad]
  case gap =>
    intro l s powered rx
    refine ⟨_, exec_gapTimeout powered l, ?_⟩
    rw [State.gapExpired_eq rx]
    obtain ⟨lane, sites, fu, rest⟩ := State.frameError_frame l 0 (s.io l).partialTag s
    have own := State.frameError_io l 0 (s.io l).partialTag s
    have other {m : Link} (h : m ≠ l) := State.frameError_io_ne l 0 (s.io l).partialTag s h
    generalize s.frameError l 0 (s.io l).partialTag = t at lane sites fu rest own other ⊢
    obtain ⟨lane', sites', rest'⟩ := State.withIo_frame l (t.io l).await t
    refine ⟨?_, fun m h => (State.io_withIo_ne h ..).trans (other h), lane'.trans lane, fun k => ?_,
      ?_, ?_⟩
    · rw [State.io_withIo, own, LinkIo.partialTag_eq]
      split <;> rfl
    · have := congrArg (fun sl : SiteLink => { sl with io := (s.site k).io }) (sites' k)
      exact this.trans (sites k)
    · exact (congrArg State.fu rest' :).trans fu
    · have := congrArg (fun t : State => { t with sites := s.sites, sup := s.sup, fu := s.fu }) rest'
      exact this.trans rest
  case sent =>
    intro l m rest s powered replies
    have sent : (s.io l).sent = { s.io l with replies := rest } := by simp [LinkIo.sent, replies]
    refine ⟨_, exec_replySent powered l, ?_⟩
    rw [sent]
    obtain ⟨lane, sites, frame⟩ := State.withIo_frame l { s.io l with replies := rest } s
    exact ⟨State.io_withIo .., State.placesInUse_sent replies, fun j h => State.io_withIo_ne h .., lane, sites, frame⟩

/-! ### STATUS and READ STATUS -/

theorem holdWords_length (q : Option PrepReq) : ∃ a b c d, holdWords q = [a, b, c, d] := by
  unfold holdWords
  split
  · exact ⟨_, _, _, _, rfl⟩
  · split <;> exact ⟨_, _, _, _, rfl⟩

theorem slotWords_length (x : Slot) : ∃ a b c d e, slotWords x = [a, b, c, d, e] := by
  unfold slotWords
  split <;> exact ⟨_, _, _, _, _, rfl⟩

theorem wordOfBool_not (b : Bool) : wordOfBool (!b) = if b then 0 else 1 := by cases b <;> rfl

theorem wordOfBool_beq {α : Type} [DecidableEq α] (x y : α) : wordOfBool (x == y) = if x = y then 1 else 0 := by
  by_cases h : x = y <;> simp [wordOfBool, h]

/-- READ STATUS ends with the hit count of the last watch entry. -/
theorem State.readStatusWords_end (s : State) : ∃ ws : List Word,
    s.readStatusWords = ws ++ [hiWord (BitVec.ofNat 32 (s.wt.get 3).hits), loWord (BitVec.ofNat 32 (s.wt.get 3).hits)] := by
  have last : s.wt.toList.flatMap watchWords =
      (watchWords s.wt.s0 ++ (watchWords s.wt.s1 ++ (watchWords s.wt.s2 ++
        ([wordOf s.wt.s3.content.kindCode] ++ s.wt.s3.content.valueWords ++ [wordOfBool s.wt.s3.hold])))) ++
      [hiWord (BitVec.ofNat 32 s.wt.s3.hits), loWord (BitVec.ofNat 32 s.wt.s3.hits)] := by
    simp [Four.toList, watchWords, twoWords]
  rw [State.readStatusWords, last, ← List.append_assoc]
  exact ⟨_, rfl⟩

/-- Settles O22: both are answered with words read off the state. -/
theorem statusRequestsAreAnswered : Obligations.StatusRequestsAreAnswered := by
  refine ⟨fun k tag s powered room => ⟨s.statusWords k, ?_, ?_⟩, fun tag s powered room => ⟨s.readStatusWords, ?_, ?_⟩⟩
  · rw [exec_status powered, State.answerStatus, room]
    rfl
  · obtain ⟨h1, h2, h3, h4, hold⟩ := holdWords_length (s.site k).cmd
    obtain ⟨a1, a2, a3, a4, a5, slotA⟩ := slotWords_length (s.chan k).slotA
    obtain ⟨b1, b2, b3, b4, b5, slotB⟩ := slotWords_length (s.chan k).slotB
    simp only [State.statusWords, hold, slotA, slotB, wordOfBool_not, wordOfBool_beq]
    exact ⟨rfl, rfl, rfl, rfl, rfl, rfl, rfl, rfl⟩
  · rw [exec_readStatus powered, State.answerReadStatus, room]
    rfl
  · refine ⟨rfl, rfl, rfl, rfl, ?_⟩
    obtain ⟨ws, h⟩ := State.readStatusWords_end s
    simp [h]

end Machine
end Sys2Proof
end

section
/-!
PROOFS. RELEASE (O19) and BURN (O20): the slot a site holds for a position, its release, and the acceptance of a burn.
-/

namespace Sys2Proof.Machine

/-! ### Channels and site links under the updates of other fields -/

@[simp] theorem State.chan_withLc (s : State) (x : LotController) (k : Site) : (s.withLc x).chan k = s.chan k := rfl
@[simp] theorem State.chan_withSa (s : State) (x : Allocator) (k : Site) : (s.withSa x).chan k = s.chan k := rfl
@[simp] theorem State.chan_withDrt (s : State) (x : Table) (k : Site) : (s.withDrt x).chan k = s.chan k := rfl
@[simp] theorem State.chan_withPort (s : State) (x : List PortEntry) (k : Site) : (s.withPort x).chan k = s.chan k := rfl
@[simp] theorem State.chan_withDu (s : State) (x : DerivUnit) (k : Site) : (s.withDu x).chan k = s.chan k := rfl
@[simp] theorem State.chan_withPs (s : State) (x : ProfileStore) (k : Site) : (s.withPs x).chan k = s.chan k := rfl
@[simp] theorem State.chan_withJs (s : State) (x : Journal) (k : Site) : (s.withJs x).chan k = s.chan k := rfl
@[simp] theorem State.chan_withWt (s : State) (x : Four WatchEntry) (k : Site) : (s.withWt x).chan k = s.chan k := rfl
@[simp] theorem State.chan_withFu (s : State) (x : FaultUnit) (k : Site) : (s.withFu x).chan k = s.chan k := rfl
@[simp] theorem State.chan_withSup (s : State) (x : SupLink) (k : Site) : (s.withSup x).chan k = s.chan k := rfl
@[simp] theorem State.chan_withPwrwarn (s : State) (x : Bool) (k : Site) : (s.withPwrwarn x).chan k = s.chan k := rfl
@[simp] theorem State.chan_withSites (s : State) (x : Four SiteLink) (k : Site) : (s.withSites x).chan k = s.chan k := rfl
@[simp] theorem State.chan_modSite (j k : Site) (f : SiteLink → SiteLink) (s : State) :
    (s.modSite j f).chan k = s.chan k := rfl

@[simp] theorem State.site_withLc (s : State) (x : LotController) (k : Site) : (s.withLc x).site k = s.site k := rfl
@[simp] theorem State.site_withSa (s : State) (x : Allocator) (k : Site) : (s.withSa x).site k = s.site k := rfl
@[simp] theorem State.site_withDrt (s : State) (x : Table) (k : Site) : (s.withDrt x).site k = s.site k := rfl
@[simp] theorem State.site_withPort (s : State) (x : List PortEntry) (k : Site) : (s.withPort x).site k = s.site k := rfl
@[simp] theorem State.site_withDu (s : State) (x : DerivUnit) (k : Site) : (s.withDu x).site k = s.site k := rfl
@[simp] theorem State.site_withPs (s : State) (x : ProfileStore) (k : Site) : (s.withPs x).site k = s.site k := rfl
@[simp] theorem State.site_withJs (s : State) (x : Journal) (k : Site) : (s.withJs x).site k = s.site k := rfl
@[simp] theorem State.site_withWt (s : State) (x : Four WatchEntry) (k : Site) : (s.withWt x).site k = s.site k := rfl
@[simp] theorem State.site_withFu (s : State) (x : FaultUnit) (k : Site) : (s.withFu x).site k = s.site k := rfl
@[simp] theorem State.site_withSup (s : State) (x : SupLink) (k : Site) : (s.withSup x).site k = s.site k := rfl
@[simp] theorem State.site_withPwrwarn (s : State) (x : Bool) (k : Site) : (s.withPwrwarn x).site k = s.site k := rfl
@[simp] theorem State.site_withChans (s : State) (x : Four Channel) (k : Site) : (s.withChans x).site k = s.site k := rfl
@[simp] theorem State.site_modChan (j k : Site) (f : Channel → Channel) (s : State) :
    (s.modChan j f).site k = s.site k := rfl


@[simp] theorem State.withChans_withChans (s : State) (x y : Four Channel) :
    (s.withChans x).withChans y = s.withChans y := rfl
@[simp] theorem State.withSites_withSites (s : State) (x y : Four SiteLink) :
    (s.withSites x).withSites y = s.withSites y := rfl

/-- Two changes of one channel are one. -/
theorem State.modChan_modChan (k : Site) (f g : Channel → Channel) (s : State) :
    (s.modChan k f).modChan k g = s.modChan k fun c => g (f c) := by
  simp [State.modChan_eq, State.chan]

/-- Two changes of one site link are one. -/
theorem State.modSite_modSite (k : Site) (f g : SiteLink → SiteLink) (s : State) :
    (s.modSite k f).modSite k g = s.modSite k fun sl => g (f sl) := by
  simp [State.modSite_eq, State.site]

/-! ### Slots and channels -/

/-- The channel after its burn, field by field (R118 steps 3 and 4). -/
theorem Channel.afterBurn_eq (e : Option Ending) (halt : Bool) (c : Channel) :
    Channel.afterBurn e halt c = { c with
      state := if halt then .halted else if c.calDeferred then .calibrating else .idle
      calDeferred := false
      calRun := if !halt && c.calDeferred then some { codes := [], kind := 0x03 } else c.calRun
      readImage := none
      lockRead := none
      readSoFar := 0
      measured := 0
      snapshot := none
      curFuse := none
      remaining := 0
      burning := none
      ending := e
      lookupWait := false
      driving := false
      measuring := false } := by
  unfold Channel.afterBurn
  cases halt <;> cases c.calDeferred <;> rfl

@[simp] theorem Channel.setSlot_state (c : Channel) (l : SlotId) (x : Slot) : (c.setSlot l x).state = c.state := by
  cases l <;> rfl

@[simp] theorem Channel.setSlot_burning (c : Channel) (l : SlotId) (x : Slot) : (c.setSlot l x).burning = c.burning := by
  cases l <;> rfl

@[simp] theorem Channel.setSlot_calDeferred (c : Channel) (l : SlotId) (x : Slot) :
    (c.setSlot l x).calDeferred = c.calDeferred := by cases l <;> rfl

@[simp] theorem Channel.setSlot_calRun (c : Channel) (l : SlotId) (x : Slot) : (c.setSlot l x).calRun = c.calRun := by
  cases l <;> rfl

/-- The EMPTY slot that a release leaves, with discard pending while the slot's derivation runs (R84, R95). -/
def Slot.released (x : Slot) (running : Bool) : Slot :=
  { state := .empty, taking := none, image := none, discardPending := x.discardPending || running }

theorem State.emptySlot_released (k : Site) (l : SlotId) (s : State) :
    s.emptySlot k l = (s.withDu (s.du.withdraw (DEntry.isSlot k l))).withChans (s.chans.set k
      ((s.chan k).setSlot l (((s.chan k).slot l).released (s.du.runs (DEntry.isSlot k l))))) :=
  State.emptySlot_eq k l s

/-- A record that loses its holder: the record and its page's mark; no count moves. -/
theorem Table.modify_unheld {d : Table} {i : Nat} {r : DieRecord} (h : d.records[i]? = some r) :
    d.modify i DieRecord.unheld = { d with
      records := d.records.set i { r with holder := none }
      marks := d.marks.setIfInBounds (i / 64) true } := by
  have counts : d.counts.change r r.unheld = d.counts := Counters.change_same d.counts rfl rfl rfl
  rw [Table.modify_some h, counts]
  rfl

/-- A slot taken for record `x.idx` is released: slot, derivation unit, the record's holder and its page's mark (R84). -/
theorem State.releaseSlot_eq {k : Site} {l : SlotId} {x : Taking} {r : DieRecord} {s : State}
    (taking : ((s.chan k).slot l).taking = some x) (record : s.drt.records[x.idx]? = some r) :
    s.releaseSlot k l = ((s.withDu (s.du.withdraw (DEntry.isSlot k l))).withChans (s.chans.set k
      ((s.chan k).setSlot l (((s.chan k).slot l).released (s.du.runs (DEntry.isSlot k l)))))).withDrt
        { s.drt with
          records := s.drt.records.set x.idx { r with holder := none }
          marks := s.drt.marks.setIfInBounds (x.idx / 64) true } := by
  rw [State.releaseSlot, taking]
  dsimp only
  rw [State.emptySlot_released, State.modRecord_eq]
  exact congrArg _ (Table.modify_unheld record)

/-! ### RELEASE -/

theorem exec_release_free {k : Site} {s : State} {p : Pos} (ready : s.SiteReady k) (admits : s.Admits p)
    (free : (s.site k).cmd = none) (tag : Byte) :
    exec (.release k tag p) s = .next ((s.drainFor k false).releaseAccess k tag p) := by
  rw [exec_release ready.powered, free]
  refine congrArg _ ((State.siteRequest_ready ready ..).trans ?_)
  rw [State.takeRelease, admits.gate]

section
variable {k : Site} {i : Nat} {r : DieRecord} {u : State}

theorem State.heldSlot_none (record : u.drt.records[i]? = some r)
    (h : ∀ l, r.holder = some { site := k, slot := some l } → ((u.chan k).slot l).state = .empty ∨
      ((u.chan k).slot l).taking.map Taking.idx ≠ some i) : u.heldSlot k i = none := by
  have holder : (u.recordAt i).bind DieRecord.holder = r.holder := by simp [State.recordAt, record]
  unfold State.heldSlot
  rw [holder]
  split
  · next j l hl =>
    refine if_neg ?_
    rintro ⟨rfl, taken, named⟩
    exact (h l hl).elim taken fun n => n named
  · rfl

theorem State.heldSlot_some {l : SlotId} {x : Taking} (record : u.drt.records[i]? = some r)
    (holder : r.holder = some { site := k, slot := some l }) (taken : ((u.chan k).slot l).state ≠ .empty)
    (taking : ((u.chan k).slot l).taking = some x) (idx : x.idx = i) : u.heldSlot k i = some l := by
  have holder : (u.recordAt i).bind DieRecord.holder = some { site := k, slot := some l } := by
    simp [State.recordAt, record, holder]
  unfold State.heldSlot
  rw [holder]
  exact if_pos ⟨rfl, taken, by simp [taking, idx]⟩

theorem State.releaseAccess_none {p : Pos} (found : u.drt.lookup p = some i) (h : u.heldSlot k i = none) (tag : Byte) :
    u.releaseAccess k tag p = u.reply (.site k) ⟨0x02, tag, [49]⟩ := by
  rw [State.releaseAccess, found]
  simp only [h]
  rfl

theorem State.releaseAccess_burning {p : Pos} {l : SlotId} (found : u.drt.lookup p = some i)
    (h : u.heldSlot k i = some l) (burning : ((u.chan k).slot l).state = .burning) (tag : Byte) :
    u.releaseAccess k tag p = u.reply (.site k) ⟨0x02, tag, [52, wordOf i, wordOf k.val]⟩ := by
  rw [State.releaseAccess, found]
  simp only [h, if_pos burning]
  rfl

theorem State.releaseAccess_releases {p : Pos} {l : SlotId} (found : u.drt.lookup p = some i)
    (h : u.heldSlot k i = some l) (idle : ((u.chan k).slot l).state ≠ .burning) (tag : Byte) :
    u.releaseAccess k tag p = ((u.releaseSlot k l).reply (.site k) ⟨0x02, tag, [0]⟩).dropWaiting k l := by
  rw [State.releaseAccess, found]
  simp only [h, if_neg idle]
  rfl

end

theorem State.dropWaiting_not {k : Site} {l : SlotId} {s : State}
    (h : ¬((s.chan k).state = .waiting ∧ (s.chan k).burning = some l)) : s.dropWaiting k l = s := if_neg h

theorem State.dropWaiting_drops {k : Site} {l : SlotId} {s : State}
    (h : (s.chan k).state = .waiting ∧ (s.chan k).burning = some l) :
    s.dropWaiting k l = (s.modChan k (Channel.afterBurn none false)).answerBurn k 49 [] := if_pos h

/-- Settles O19: the slot found decides, and a release is `releaseSlot` with the reply, before a waiting BURN's. -/
theorem releaseEmptiesTheSlot : Obligations.ReleaseEmptiesTheSlot := by
  rintro k tag p s u ready admits free rfl
  rw [exec_release_free ready admits free]
  refine ⟨State.drainFor_idle, fun unknown => ?unknown, fun i r found record => ⟨fun other => ?other,
    fun l x holder taking idx => ⟨fun b derives waiting burning lane alone => ?waiting, fun slot => ?burning,
      fun slot calm => ?released⟩⟩⟩
  case unknown => rw [State.releaseAccess, unknown]; rfl
  case other => rw [State.releaseAccess_none found (State.heldSlot_none record other)]
  case burning =>
    have held := State.heldSlot_some record holder (by simp [slot]) taking idx
    rw [State.releaseAccess_burning found held slot]
  all_goals
    subst idx
    generalize s.drainFor k false = u at *
  case waiting =>
    have held := State.heldSlot_some record holder (by simp [derives]) taking rfl
    rw [State.releaseAccess_releases found held (by simp [derives]), State.releaseSlot_eq taking record,
      State.reply_site, State.dropWaiting_drops (by simp [waiting, burning])]
    refine ⟨_, rfl, ?_, rfl, rfl, rfl, rfl, rfl, ?_, fun j hj => ⟨?_, ?_⟩, rfl⟩
    · refine (State.modChan_chan ..).trans ?_
      rw [State.chan_withSites, State.chan_withDrt, State.chan_withChans, Four.get_set_same, Channel.afterBurn_eq]
      simp [Slot.released]
    · refine (State.modSite_site ..).trans ?_
      rw [State.site_modChan, State.site_withSites, Four.get_set_same]
      rw [SiteLink.answerBurn_alone (b := b) (by exact lane) (by exact alone)]
      simp
    · refine (State.modSite_site_ne _ _ hj).trans ?_
      rw [State.site_modChan, State.site_withSites, Four.get_set_ne _ _ hj]
      rfl
    · refine (State.modChan_chan_ne _ _ hj).trans ?_
      rw [State.chan_withSites, State.chan_withDrt, State.chan_withChans, Four.get_set_ne _ _ hj]
      rfl
  case released =>
    have taken : ((u.chan k).slot l).state ≠ .empty ∧ ((u.chan k).slot l).state ≠ .burning := by
      rcases slot with h | h <;> simp [h]
    have held := State.heldSlot_some record holder taken.1 taking rfl
    rw [State.releaseAccess_releases found held taken.2, State.releaseSlot_eq taking record,
      State.reply_site, State.dropWaiting_not (by simpa using calm)]
    exact ⟨_, rfl, Four.get_set_same _ _ _, fun j hj => Four.get_set_ne _ _ hj, rfl, rfl, rfl, rfl, rfl,
      Four.get_set_same _ _ _, fun j hj => Four.get_set_ne _ _ hj, rfl⟩

/-! ### Answers behind an ABORT that waits -/

/-- While every ABORT waits for something, none is answered. -/
theorem SiteLink.settleAborts_waiting {sl : SiteLink} (h : ∀ a ∈ sl.aborts, a.ready = false) : sl.settleAborts = sl := by
  have taken : sl.aborts.takeWhile AbortWait.ready = [] := by
    cases he : sl.aborts with
    | nil => rfl
    | cons a rest => exact List.takeWhile_cons_of_neg (by simp [h a (by simp [he])])
  have left : sl.aborts.dropWhile AbortWait.ready = sl.aborts := by
    cases he : sl.aborts with
    | nil => rfl
    | cons a rest => exact List.dropWhile_cons_of_neg (by simp [h a (by simp [he])])
  simp [SiteLink.settleAborts, taken, left]

/-- ABORTs that wait for the PREPARE alone go on waiting when the BURN is answered. -/
theorem SiteLink.answerBurn_behind {sl : SiteLink} {b : BurnReq} (burn : sl.burn = some b)
    (wait : ∀ a ∈ sl.aborts, a.waitsCmd = true ∧ a.waitsBurn = false) (code : Word) (ws : List Word) :
    sl.answerBurn code ws = { sl with
      burn := none
      io := { sl.io with replies := sl.io.replies ++ [⟨0x03, b.tag, code :: ws⟩] } } := by
  have same : sl.aborts.map (fun a => { a with waitsBurn := false }) = sl.aborts :=
    (List.map_congr_left fun a ha => by simp [← (wait a ha).2]).trans (List.map_id _)
  unfold SiteLink.answerBurn
  rw [burn]
  dsimp only
  rw [SiteLink.settleAborts_waiting, same]
  · rfl
  · rw [same]
    intro a ha
    simp [AbortWait.ready, (wait a ha).1]

/-! ### BURN -/

/-- The BURN that holds site `k`'s burn lane. -/
def State.withBurn (k : Site) (b : BurnReq) (s : State) : State := s.modSite k fun sl => { sl with burn := some b }

theorem State.withBurn_site (k : Site) (b : BurnReq) (s : State) :
    (s.withBurn k b).site k = { s.site k with burn := some b } := State.modSite_site k _ s

theorem State.withBurn_site_ne {j k : Site} (h : j ≠ k) (b : BurnReq) (s : State) :
    (s.withBurn k b).site j = s.site j := State.modSite_site_ne _ s h

theorem exec_burn_free {k : Site} {s : State} {p : Pos} (ready : s.SiteReady k) (admits : s.Admits p)
    (free : (s.site k).burn = none) (tag : Byte) :
    exec (.burn k tag p) s = .next ((s.withBurn k ⟨tag, p, false⟩).burnAttempt k p) := by
  rw [exec_burn ready.powered, free]
  refine congrArg _ ((State.siteRequest_ready ready ..).trans ?_)
  rw [State.takeBurn, admits.gate]
  rfl

/-- A BURN that is answered in its own step leaves its code as the reply and nothing else. -/
theorem State.answerBurn_withBurn {k : Site} {s : State} (free : (s.site k).burn = none)
    (wait : ∀ a ∈ (s.site k).aborts, a.waitsCmd = true ∧ a.waitsBurn = false) (b : BurnReq) (code : Word) :
    (s.withBurn k b).answerBurn k code [] = s.reply (.site k) ⟨0x03, b.tag, [code]⟩ := by
  rw [State.answerBurn_eq, State.withBurn_site, SiteLink.answerBurn_behind (b := b) rfl (by exact wait), State.reply_site,
    State.withBurn, State.modSite_eq]
  simp [← free]

section
variable {k : Site} {p : Pos} {i : Nat} {r : DieRecord} {s : State}

theorem State.burnSlot_unknown (h : s.drt.lookup p = none) : s.burnSlot k p = none := by simp [State.burnSlot, h]

theorem State.burnSlot_none (found : s.drt.lookup p = some i) (record : s.drt.records[i]? = some r)
    (h : ∀ l, r.holder = some { site := k, slot := some l } →
      ((s.chan k).slot l).state = .empty ∨ ((s.chan k).slot l).state = .burning) : s.burnSlot k p = none := by
  simp only [State.burnSlot, found, State.recordAt, record]
  rcases holder : r.holder with _ | ⟨j, _ | l⟩
  · rfl
  · rfl
  · refine if_neg ?_
    rintro ⟨site, ready⟩
    subst site
    rcases h l holder with e | e <;> simp [e] at ready

theorem State.burnSlot_some {l : SlotId} (found : s.drt.lookup p = some i) (record : s.drt.records[i]? = some r)
    (holder : r.holder = some { site := k, slot := some l })
    (slot : ((s.chan k).slot l).state = .staged ∨ ((s.chan k).slot l).state = .deriving) :
    s.burnSlot k p = some l := by
  simp only [State.burnSlot, found, State.recordAt, record, holder]
  exact if_pos ⟨trivial, slot⟩

end

theorem State.burnSlot_withBurn (k : Site) (b : BurnReq) (p : Pos) (s : State) :
    (s.withBurn k b).burnSlot k p = s.burnSlot k p := rfl

/-- The channel that accepts a BURN on a STAGED slot (R104, R106, R139). -/
def Channel.qualifyingOn (l : SlotId) (ps : ProfileStore) (c : Channel) : Channel :=
  { c.setSlot l { c.slot l with state := .burning } with
    state := .qualifying
    snapshot := some { profile := ps.profile, gen := ps.gen }
    qualCounter := 0
    bounce := 0
    qualTimer := 0
    burning := some l
    contactLost := false
    attPulses := 0
    attBits := 0
    cls := none
    ending := none }

/-- The channel that accepts a BURN on a DERIVING slot (R104, R105). -/
def Channel.waitingOn (l : SlotId) (c : Channel) : Channel :=
  { c with
    state := .waiting, burning := some l, contactLost := false, attPulses := 0, attBits := 0, cls := none, ending := none }

theorem State.acceptBurn_staged {k : Site} {l : SlotId} {s : State} (h : ((s.chan k).slot l).state = .staged) :
    s.acceptBurn k l = s.withChans (s.chans.set k ((s.chan k).qualifyingOn l s.ps)) := by
  simp only [State.acceptBurn, if_pos h, State.startQualify]
  rw [State.modChan_modChan, State.modChan_eq]
  cases l <;> rfl

theorem State.acceptBurn_deriving {k : Site} {l : SlotId} {s : State} (h : ((s.chan k).slot l).state ≠ .staged) :
    s.acceptBurn k l = s.withChans (s.chans.set k ((s.chan k).waitingOn l)) := by
  simp only [State.acceptBurn, if_neg h]
  rw [State.modChan_modChan, State.modChan_eq]
  rfl

/-- Settles O20: the slot check, then the channel's state. -/
theorem burnIsAccepted : Obligations.BurnIsAccepted := by
  intro k tag p s ready admits free wait
  rw [exec_burn_free ready admits free]
  have answered (code : Word) := State.answerBurn_withBurn free wait ⟨tag, p, false⟩ code
  have no_slot (h : s.burnSlot k p = none) :
      (s.withBurn k ⟨tag, p, false⟩).burnAttempt k p = s.reply (.site k) ⟨0x03, tag, [49]⟩ := by
    rw [State.burnAttempt, State.burnSlot_withBurn, h]
    exact answered 49
  refine ⟨fun unknown => congrArg _ (no_slot (State.burnSlot_unknown unknown)), fun i r found record =>
    ⟨fun other => congrArg _ (no_slot (State.burnSlot_none found record other)), fun l holder slot => ?_⟩⟩
  have state : (s.withBurn k ⟨tag, p, false⟩).chan k = s.chan k := rfl
  simp only [State.burnAttempt, State.burnSlot_withBurn, State.burnSlot_some found record holder slot, state]
  refine ⟨fun halted => ?_, fun uncalibrated => ?_, fun calibrating => ?_, fun idle warned => ?_, fun idle calm => ?_⟩
  · rw [halted]; exact congrArg _ (answered 65)
  · rw [uncalibrated]; exact congrArg _ (answered 64)
  · rw [calibrating]
    simp only [State.modSite_eq, State.withBurn_site]
    simp [State.withBurn, State.modSite_eq]
    rfl
  · have pin : (s.withBurn k ⟨tag, p, false⟩).pwrwarn = true := warned
    rw [idle]
    simp only [pin, if_true]
    exact congrArg _ (answered 66)
  · have pin : (s.withBurn k ⟨tag, p, false⟩).pwrwarn = false := calm
    rw [idle]
    simp only [pin, Bool.false_eq_true, if_false]
    by_cases staged : ((s.chan k).slot l).state = .staged
    · rw [State.acceptBurn_staged (by exact staged)]
      exact ⟨_, rfl, State.withBurn_site .., fun j hj => ⟨State.withBurn_site_ne hj .., Four.get_set_ne _ _ hj⟩,
        fun _ => Four.get_set_same _ _ _, fun h => absurd staged h, rfl⟩
    · rw [State.acceptBurn_deriving (by exact staged)]
      exact ⟨_, rfl, State.withBurn_site .., fun j hj => ⟨State.withBurn_site_ne hj .., Four.get_set_ne _ _ hj⟩,
        fun h => absurd h staged, fun _ => Four.get_set_same _ _ _, rfl⟩

end Sys2Proof.Machine
end

section
/-!
PROOFS. The ending of a burn (R118) as one statement about the state it leaves, and the events at a burn channel: contact
(O31), qualification (O32, O33), pulses (O35) and fuse measurements (O36).
-/

namespace Sys2Proof.Machine

/-! ### A burn that ends after its blank check began -/

/-- Every part of the state but channels, table, port, faults and derivation unit stands. -/
theorem State.withChans_withDrt_frame {s t : State} {x : Four Channel} {d : Table}
    (h : { t with chans := x, port := s.port, fu := s.fu, du := s.du } = (s.withChans x).withDrt d) :
    t.drt = d ∧ { t with chans := s.chans, drt := s.drt, port := s.port, fu := s.fu, du := s.du } = s :=
  ⟨congrArg State.drt h,
    congrArg (fun u : State => { u with chans := s.chans, drt := s.drt }) h⟩

/-- What an ending reports depends on the fault unit and the lot clock alone. -/
theorem State.reportEnding_fu_congr {s t : State} (fu : t.fu = s.fu) (lc : t.lc = s.lc) (k : Site) (e : Ending)
    (halt : Bool) (p : Pos) : (t.reportEnding k e halt p).fu = (s.reportEnding k e halt p).fu := by
  unfold State.reportEnding
  cases e.fault <;> by_cases h : halt = true ∧ e ≠ .driverFault <;> simp [h, State.report_eq, fu, lc]

/-- The burn whose channel stands at `c`, and the table at `d`, ends with an ending that has an ending write. -/
theorem State.finishBurn_written {k : Site} {l : SlotId} {x : Taking} {e : Ending} {halt : Bool} {c : Channel}
    (d : Table) (s : State) (burning : c.burning = some l) (taking : (c.slot l).taking = some x)
    (past : c.state.past = true) :
    ∃ t, ((s.withChans (s.chans.set k c)).withDrt d).finishBurn k e halt = t ∧
      Channel.EndedBy l x e halt c (t.chan k) ∧ t.drt = d ∧
      State.EndsAt k (if e = .adopted then .adoption else .ending) s t ∧
      t.fu = (s.reportEnding k e halt x.pos).fu ∧ (∀ j, j ≠ k → t.chan j = s.chan j) ∧
      { t with chans := s.chans, drt := s.drt, port := s.port, fu := s.fu, du := s.du } = s := by
  have here : ((s.withChans (s.chans.set k c)).withDrt d).chan k = c := Four.get_set_same _ _ _
  obtain ⟨ended, ends, fu, others, frame⟩ := State.finishBurn_past (k := k) (l := l) (x := x)
    (s := (s.withChans (s.chans.set k c)).withDrt d) e halt (by rw [here]; exact burning) (by rw [here]; exact taking)
    (by rw [here]; exact past)
  rw [here] at ended
  obtain ⟨drt, rest⟩ := State.withChans_withDrt_frame (s := s) frame
  exact ⟨_, rfl, ended, drt, ends, fu.trans
    (State.reportEnding_fu_congr (s := s) (t := (s.withChans (s.chans.set k c)).withDrt d) rfl rfl ..),
    fun j hj => (others j hj).trans (Four.get_set_ne _ _ hj), rest⟩

/-- As `finishBurn_written`, where the table is as it was. -/
theorem State.finishBurn_written_same {k : Site} {l : SlotId} {x : Taking} {e : Ending} {halt : Bool} {c : Channel}
    (s : State) (burning : c.burning = some l) (taking : (c.slot l).taking = some x) (past : c.state.past = true) :
    ∃ t, (s.withChans (s.chans.set k c)).finishBurn k e halt = t ∧
      Channel.EndedBy l x e halt c (t.chan k) ∧
      State.EndsAt k (if e = .adopted then .adoption else .ending) s t ∧
      t.fu = (s.reportEnding k e halt x.pos).fu ∧ (∀ j, j ≠ k → t.chan j = s.chan j) ∧
      { t with chans := s.chans, port := s.port, fu := s.fu, du := s.du } = s := by
  obtain ⟨t, eq, ended, drt, ends, fu, others, frame⟩ :=
    State.finishBurn_written (k := k) (e := e) (halt := halt) s.drt s burning taking past
  refine ⟨t, eq, ended, ends, fu, others, ?_⟩
  calc ({ t with chans := s.chans, port := s.port, fu := s.fu, du := s.du } : State)
      = { { t with chans := s.chans, drt := s.drt, port := s.port, fu := s.fu, du := s.du } with drt := t.drt } := rfl
    _ = { s with drt := t.drt } := by rw [frame]
    _ = s := by rw [drt]

/-- The fault of an ending that an interruption had fixed (R122). -/
theorem State.reportEnding_fixed {k : Site} {e : Ending} (h : e = .aborted ∨ e = .powerWarning ∨ e = .partStopped)
    (p : Pos) (s : State) : (s.reportEnding k e false p).fu = s.fu.fixedEnding k p s.lc.clock e := by
  rw [State.reportEnding_fu (.inl rfl)]
  rcases h with rfl | rfl | rfl <;> rfl

/-- The faults of such an ending under a supply fault: 51 first (R125, log 40). -/
theorem State.reportEnding_fixed_halt {k : Site} {e : Ending} (h : e = .aborted ∨ e = .powerWarning ∨ e = .partStopped)
    (p : Pos) (s : State) :
    (s.reportEnding k e true p).fu =
      (s.fu.take ⟨51, some k, some p, 0x03, s.lc.clock⟩).fixedEnding k p s.lc.clock e := by
  rcases h with rfl | rfl | rfl <;> rfl

theorem Channel.FixedBy.ne_adopted {l : SlotId} {x : Taking} {e : Ending} {c : Channel} (h : c.FixedBy l x e) :
    e ≠ .adopted := by
  rcases h.interrupts with rfl | rfl | rfl <;> decide

/-! ### Changes of one channel -/

theorem State.modChan_withChans (k : Site) (c : Channel) (f : Channel → Channel) (s : State) :
    (s.withChans (s.chans.set k c)).modChan k f = s.withChans (s.chans.set k (f c)) := by
  simp [State.modChan_eq]

theorem State.withChans_chan (k : Site) (c : Channel) (s : State) : (s.withChans (s.chans.set k c)).chan k = c :=
  Four.get_set_same _ _ _

theorem State.withChans_chan_ne {j k : Site} (h : j ≠ k) (c : Channel) (s : State) :
    (s.withChans (s.chans.set k c)).chan j = s.chan j := Four.get_set_ne _ _ h

theorem State.withChans_self (k : Site) (s : State) : s.withChans (s.chans.set k (s.chan k)) = s := by
  rw [State.chan, Four.set_get]
  rfl

/-- A change of channel `k` alone. -/
theorem State.modChan_only {k : Site} {f : Channel → Channel} {s : State} {c : Channel} (h : f (s.chan k) = c) :
    (s.modChan k f).chan k = c ∧ (∀ j, j ≠ k → (s.modChan k f).chan j = s.chan j) ∧
    { s.modChan k f with chans := s.chans } = s :=
  ⟨(State.modChan_chan ..).trans h, fun _ hj => State.modChan_chan_ne _ _ hj, rfl⟩

theorem Channel.burningTaking_eq {c : Channel} {l : SlotId} {x : Taking} (burning : c.burning = some l)
    (taking : (c.slot l).taking = some x) : c.burningTaking = some (l, x) := by
  simp [Channel.burningTaking, burning, taking]

/-- A pulse of the burn on record `x.idx` is counted at the channel and in the record (R56, R114). -/
theorem State.countPulse_withChans {k : Site} {l : SlotId} {x : Taking} {c : Channel} (s : State)
    (burning : c.burning = some l) (taking : (c.slot l).taking = some x) :
    (s.withChans (s.chans.set k c)).countPulse k =
      (s.withChans (s.chans.set k c.countPulse)).withDrt (s.drt.modify x.idx DieRecord.pulseEnded) := by
  rw [State.countPulse, State.withChans_chan, Channel.burningTaking_eq burning taking]
  dsimp only
  rw [State.modChan_withChans]
  rfl

@[simp] theorem Channel.countPulse_slot (c : Channel) (l : SlotId) : c.countPulse.slot l = c.slot l := by cases l <;> rfl

/-! ### Contact (O31) -/

theorem exec_contactOpens (k : Site) (s : State) : exec (.contactOpens k) s = .next (s.openContact k) := rfl

/-- The channel with its contact flag clear. -/
def Channel.opened (c : Channel) : Channel := { c with contact := false }

@[simp] theorem Channel.opened_slot (c : Channel) (l : SlotId) : c.opened.slot l = c.slot l := by cases l <;> rfl

theorem State.openContact_closed {k : Site} {s : State} (powered : s.powered = true) (closed : (s.chan k).contact = true) :
    s.openContact k = (s.withChans (s.chans.set k (s.chan k).opened)).contactLost k := by
  simp only [State.openContact, closed, if_true]
  exact State.live_powered (s := s.modChan k fun c => { c with contact := false }) powered _

/-- The channel at the end of a burn that an opening cuts: a pulse that is driven is counted (R120). -/
def Channel.cut (c : Channel) : Channel := if c.pulsing && c.driving then c.countPulse else c

/-- An opening past qualification cuts a driven pulse and ends the burn (R120, R125). -/
theorem State.contactLost_past {k : Site} {l : SlotId} {x : Taking} {c : Channel} (s : State)
    (past : c.state.past = true) (burning : c.burning = some l) (taking : (c.slot l).taking = some x) :
    (s.withChans (s.chans.set k c)).contactLost k =
      ((s.withChans (s.chans.set k c.cut)).withDrt
        (if c.pulsing && c.driving then s.drt.modify x.idx DieRecord.pulseEnded else s.drt)).finishBurn k
          (c.endingOr .contactLost) false := by
  have counted := State.countPulse_withChans (k := k) s burning taking
  unfold State.contactLost
  simp only [State.withChans_chan]
  cases state : c.state
  case programming | locking =>
    cases driving : c.driving
    · simp [Channel.cut, Channel.pulsing, state, driving]; rfl
    · simp [Channel.cut, Channel.pulsing, state, driving, counted]
  case checking | adoptWait | verifying => simp [Channel.cut, Channel.pulsing, state]; rfl
  all_goals simp [state, ChanState.past] at past

theorem Channel.cut_burning (c : Channel) : c.cut.burning = c.burning := by unfold Channel.cut; split <;> rfl
theorem Channel.cut_slot (c : Channel) (l : SlotId) : c.cut.slot l = c.slot l := by
  unfold Channel.cut
  split
  · exact Channel.countPulse_slot c l
  · rfl
theorem Channel.cut_state (c : Channel) : c.cut.state = c.state := by unfold Channel.cut; split <;> rfl

/-- What an opening past qualification leaves, by the ending it meets. -/
theorem exec_contactOpens_past {k : Site} {l : SlotId} {x : Taking} {s : State} (powered : s.powered = true)
    (closed : (s.chan k).contact = true) (past : (s.chan k).state.past = true) (burning : (s.chan k).burning = some l)
    (taking : ((s.chan k).slot l).taking = some x) :
    ∃ t, exec (.contactOpens k) s = .next t ∧
      Channel.EndedBy l x ((s.chan k).endingOr .contactLost) false (s.chan k).opened.cut (t.chan k) ∧
      t.drt = (if (s.chan k).pulsing && (s.chan k).driving then s.drt.modify x.idx DieRecord.pulseEnded else s.drt) ∧
      State.EndsAt k (if (s.chan k).endingOr .contactLost = .adopted then .adoption else .ending) s t ∧
      t.fu = (s.reportEnding k ((s.chan k).endingOr .contactLost) false x.pos).fu ∧ (∀ j, j ≠ k → t.chan j = s.chan j) ∧
      { t with chans := s.chans, drt := s.drt, port := s.port, fu := s.fu, du := s.du } = s := by
  have opened : (s.chan k).opened.burning = some l ∧ ((s.chan k).opened.slot l).taking = some x :=
    ⟨burning, by rw [Channel.opened_slot]; exact taking⟩
  obtain ⟨t, eq, rest⟩ := State.finishBurn_written (k := k) (l := l) (x := x) (halt := false)
    (e := (s.chan k).endingOr .contactLost) (c := (s.chan k).opened.cut)
    (if (s.chan k).pulsing && (s.chan k).driving then s.drt.modify x.idx DieRecord.pulseEnded else s.drt) s
    ((Channel.cut_burning _).trans opened.1) (by rw [Channel.cut_slot]; exact opened.2)
    (by rw [Channel.cut_state]; exact past)
  refine ⟨t, ?_, rest⟩
  rw [exec_contactOpens, State.openContact_closed powered closed,
    State.contactLost_past s (by exact past) opened.1 opened.2]
  exact congrArg _ eq

theorem ChanState.past_of_mem {st : ChanState}
    (h : st ∈ [ChanState.checking, .adoptWait, .programming, .verifying, .locking]) : st.past = true := by
  revert st
  decide

/-- Settles O31. -/
theorem contactIsFollowed : Obligations.ContactIsFollowed := by
  refine ⟨fun k s => ⟨⟨_, rfl, State.modChan_only rfl⟩, fun powered closed qualifying => ?bounce, fun calm => ?calm⟩,
    fun k l x s powered closed state unfixed burning taking => ?lost, fun k l x e s powered closed state fixed => ?fixed⟩
  case bounce =>
    refine ⟨_, rfl, ?_⟩
    have bounced : (s.withChans (s.chans.set k (s.chan k).opened)).contactLost k =
        s.withChans (s.chans.set k (s.chan k).opened.bounced) := by
      rw [State.contactLost, State.withChans_chan]
      have : (s.chan k).opened.state = .qualifying := qualifying
      rw [this]
      exact State.modChan_withChans ..
    rw [State.openContact_closed powered closed, bounced]
    exact ⟨State.withChans_chan .., fun j hj => State.withChans_chan_ne hj .., rfl⟩
  case calm =>
    refine ⟨_, rfl, ?_⟩
    have nothing : ((s.modChan k fun c => { c with contact := false }).live (State.contactLost k)) =
        s.modChan k fun c => { c with contact := false } := by
      unfold State.live State.contactLost
      rw [State.modChan_chan]
      dsimp only
      split
      · split <;> simp_all
      · rfl
    have : s.openContact k = s.modChan k fun c => { c with contact := false } := by
      unfold State.openContact
      split
      · exact nothing
      · rfl
    rw [this]
    exact State.modChan_only rfl
  case lost =>
    have ending : (s.chan k).endingOr .contactLost = .contactLost := by simp [Channel.endingOr, unfixed]
    obtain ⟨t, run, ended, drt, ends, fu, others, frame⟩ :=
      exec_contactOpens_past powered closed (ChanState.past_of_mem state) burning taking
    rw [ending] at ended ends fu
    exact ⟨t, run, ended, drt, ends, fu.trans (State.reportEnding_fu (.inl rfl) ..), others, frame⟩
  case fixed =>
    have ending : (s.chan k).endingOr .contactLost = e := by simp [Channel.endingOr, fixed.fixed]
    have past : (s.chan k).state.past = true := ChanState.past_of_mem (by simp only [List.mem_cons] at state ⊢; tauto)
    obtain ⟨t, run, ended, drt, ends, fu, others, frame⟩ :=
      exec_contactOpens_past powered closed past fixed.slot fixed.taking
    rw [ending] at ended ends fu
    rw [if_neg fixed.ne_adopted] at ends
    exact ⟨t, run, ended, drt, ends, fu.trans (State.reportEnding_fixed fixed.interrupts ..), others, frame⟩

/-! ### Qualification (O32, O33) -/

theorem exec_qualificationComplete {s : State} (powered : s.powered = true) (k : Site) :
    exec (.qualificationComplete k) s = .next (s.qualified k) := congrArg _ (State.live_powered powered _)

/-- The channel at its blank-check start (R109). -/
def Channel.checking (c : Channel) : Channel :=
  { c with state := .checking, readSoFar := 0, measured := 0, readImage := none, lockRead := none, lookupWait := false }

/-- The blank check begins at the channel and in the record its burning slot names (R55, R109). -/
theorem State.beginBlankCheck_eq {k : Site} {l : SlotId} {x : Taking} {s : State} (burning : (s.chan k).burning = some l)
    (taking : ((s.chan k).slot l).taking = some x) :
    s.beginBlankCheck k = (s.modChan k Channel.checking).withDrt
      (s.drt.modify x.idx (DieRecord.blankCheckStart k s.lc.clock)) := by
  rw [State.beginBlankCheck, Channel.burningTaking_eq burning taking]
  rfl

/-- The counts after a record's change of state that sets neither mark nor flag. -/
theorem Counters.change_moved (c : Counters) {r r' : DieRecord} (state : r.state ≠ r'.state)
    (exhausted : r'.exhausted = r.exhausted) (recovered : r'.recovered = r.recovered) :
    c.change r r' = (c.lower r.state).raise r'.state := by
  simp [Counters.change, state, exhausted, recovered]

/-- A completed qualification holds its count at settle, and goes on to the blank check unless a warning stands. -/
theorem State.qualified_eq {k : Site} {sn : Snapshot} {s : State} (qualifying : (s.chan k).state = .qualifying)
    (closed : (s.chan k).contact = true) (snapshot : (s.chan k).snapshot = some sn) :
    s.qualified k =
      if s.pwrwarn then s.withChans (s.chans.set k { s.chan k with qualCounter := sn.profile.settle })
      else (s.withChans (s.chans.set k { s.chan k with qualCounter := sn.profile.settle })).startCheck k := by
  unfold State.qualified
  dsimp only
  split
  · next sn' _ h =>
    cases snapshot.symm.trans h
    rw [if_pos closed]
    rfl
  · next h => exact absurd snapshot (h sn qualifying)

/-- Settles O32. -/
theorem qualificationBeginsTheBlankCheck : Obligations.QualificationBeginsTheBlankCheck := by
  intro k sn s v u powered qualifying closed snapshot hv hu
  have run : exec (.qualificationComplete k) s = .next (if s.pwrwarn then v else v.startCheck k) := by
    rw [exec_qualificationComplete powered, State.qualified_eq qualifying closed snapshot, hv]
    rfl
  rw [run]
  refine ⟨fun warned => by rw [if_pos warned], fun first => hu.trans ?_, fun l x r calm burning taking record => ?_⟩
  · rw [hv]
    exact State.drainFor_idle first
  · have begun : v.startCheck k = u.beginBlankCheck k := by rw [hu]; rfl
    rw [if_neg (by simp [calm]), begun, State.beginBlankCheck_eq burning taking, Table.modify_some record]
    refine ⟨_, rfl, State.modChan_chan .., rfl, rfl, rfl, fun reserved => ?_,
      fun j hj => State.modChan_chan_ne _ _ hj, rfl⟩
    have moves : r.state ≠ (r.blankCheckStart k u.lc.clock).state := by rw [reserved]; exact RecState.noConfusion
    refine (Counters.change_moved _ moves rfl rfl).trans ?_
    rw [reserved]
    rfl

/-- The channel after a burn that ended before its blank check began (R83, R118). -/
def Channel.unburned (l : SlotId) (e : Ending) (c : Channel) : Channel :=
  Channel.afterBurn (some e) false (c.setSlot l (c.slot l).unburned)

theorem Channel.leftBy_unburned (l : SlotId) (e : Ending) (c : Channel) : Channel.LeftBy l e c (c.unburned l e) := by
  have slot : (c.slot l).unburned =
      { c.slot l with state := if (c.slot l).state = .burning then .staged else (c.slot l).state } := by
    unfold Slot.unburned
    split <;> simp_all
  unfold Channel.LeftBy Channel.unburned
  rw [Channel.afterBurn_eq, slot]
  simp

/-- The words of a BURN's reply after a burn that ended before its blank check began (R119). -/
def Channel.unwrittenWords (x : Taking) (r : DieRecord) (bounce : Nat) (c : Channel) : List Word :=
  [posWord x.pos, wordOf x.idx, hiWord x.serial, loWord x.serial, 0, wordOf (classCode c.cls), wordOf c.attPulses,
    wordOf c.attBits, wordOf r.attempts, wordOf bounce]

/-- A burn ends before its blank check began: channel, faults and the BURN's answer (R118, R119). -/
theorem State.finishBurn_unwritten {k : Site} {l : SlotId} {x : Taking} {e : Ending} {r : DieRecord} {s : State}
    (burning : (s.chan k).burning = some l) (taking : ((s.chan k).slot l).taking = some x)
    (before : (s.chan k).state.past = false) (record : s.drt.records[x.idx]? = some r) (kept : e ≠ .contactLost) :
    s.finishBurn k e false =
      ((s.withChans (s.chans.set k ((s.chan k).unburned l e))).withFu (s.reportEnding k e false x.pos).fu).answerBurn k
        e.word ((s.chan k).unwrittenWords x r (if e = .noContact then (s.chan k).bounce else 0)) := by
  have words := Channel.burningTaking_eq burning taking
  simp only [State.finishBurn, words, before, Bool.false_eq_true, if_false, State.endUnwritten, State.recordAt, record,
    State.leaveBurn, if_neg kept]
  rw [State.reportEnding_eq, State.reportEnding_fu_congr (s := s) (t := s.modChan k _) rfl rfl]
  simp only [State.modChan_eq, State.withFu_chans, State.withChans_chans, State.chan_withFu, State.chan_withChans,
    Four.get_set_same, Four.set_set]
  rfl

theorem exec_qualifyTimeout {s : State} (powered : s.powered = true) (k : Site) :
    exec (.qualifyTimeout k) s = .next (s.qualifyExpired k) := congrArg _ (State.live_powered powered _)

/-- Settles O33. -/
theorem qualifyTimeoutEndsWithoutContact : Obligations.QualifyTimeoutEndsWithoutContact := by
  intro k l x r b s powered qualifying burning taking slot record lane alone
  have before : (s.chan k).state.past = false := by rw [qualifying]; rfl
  refine ⟨s.finishBurn k .noContact false, ?_, ?_⟩
  · rw [exec_qualifyTimeout powered, State.qualifyExpired, if_pos qualifying]
  · rw [State.finishBurn_unwritten burning taking before record (by decide), State.answerBurn_eq]
    have left : ((s.chan k).unburned l .noContact) = _ := Channel.leftBy_unburned l .noContact (s.chan k)
    refine ⟨?_, ?_, State.reportEnding_fu (.inl rfl) .., ?_, fun j hj => ⟨Four.get_set_ne _ _ hj, Four.get_set_ne _ _ hj⟩, rfl⟩
    · rw [State.chan_withSites, State.chan_withFu, State.withChans_chan]
      exact Channel.leftBy_unburned ..
    · rw [State.chan_withSites, State.chan_withFu, State.withChans_chan, left]
      cases l <;> exact if_pos slot
    · refine (Four.get_set_same _ _ _).trans ?_
      rw [State.site_withFu, State.site_withChans, SiteLink.answerBurn_alone lane alone]
      rfl

/-! ### Pulses (O35) -/

theorem exec_pulseEnd {s : State} (powered : s.powered = true) (k : Site) (inRegulation : Bool) :
    exec (.pulseEnd k inRegulation) s = .next (s.pulseEnded k inRegulation) := congrArg _ (State.live_powered powered _)

theorem Channel.pulsing_iff {c : Channel} : c.pulsing = true ↔ c.state = .programming ∨ c.state = .locking := by
  simp [Channel.pulsing]

theorem Channel.past_of_pulsing {c : Channel} (h : c.state = .programming ∨ c.state = .locking) :
    c.state.past = true := by
  rcases h with h | h <;> rw [h] <;> rfl

section
variable {k : Site} {l : SlotId} {x : Taking} {s : State}

/-- A pulse of the burn in progress is counted at the channel and in the record (R56, R114). -/
theorem State.countPulse_eq (burning : (s.chan k).burning = some l) (taking : ((s.chan k).slot l).taking = some x) :
    s.countPulse k =
      (s.withChans (s.chans.set k (s.chan k).countPulse)).withDrt (s.drt.modify x.idx DieRecord.pulseEnded) := by
  have := State.countPulse_withChans (k := k) s burning taking
  rwa [State.withChans_self] at this

/-- A pulse out of regulation: counted, and the burn ends with its channel HALTED (R123). -/
theorem exec_pulseEnd_fault (powered : s.powered = true) (state : (s.chan k).state = .programming ∨ (s.chan k).state = .locking)
    (driven : (s.chan k).measuring = false) (burning : (s.chan k).burning = some l)
    (taking : ((s.chan k).slot l).taking = some x) {e : Ending} (ending : (s.chan k).endingOr .driverFault = e) :
    ∃ t, exec (.pulseEnd k false) s = .next t ∧
      Channel.EndedBy l x e true (s.chan k).countPulse (t.chan k) ∧
      t.drt = s.drt.modify x.idx DieRecord.pulseEnded ∧
      State.EndsAt k (if e = .adopted then .adoption else .ending) s t ∧
      t.fu = (s.reportEnding k e true x.pos).fu ∧ (∀ j, j ≠ k → t.chan j = s.chan j) ∧
      { t with chans := s.chans, drt := s.drt, port := s.port, fu := s.fu, du := s.du } = s := by
  obtain ⟨t, eq, rest⟩ := State.finishBurn_written (k := k) (l := l) (x := x) (e := e) (halt := true)
    (c := (s.chan k).countPulse) (s.drt.modify x.idx DieRecord.pulseEnded) s burning
    (by rw [Channel.countPulse_slot]; exact taking) (by exact Channel.past_of_pulsing state)
  refine ⟨t, ?_, rest⟩
  rw [exec_pulseEnd powered, State.pulseEnded]
  simp only [Channel.pulsing_iff, state, driven, and_self, if_true, Bool.false_eq_true, if_false, ending,
    State.countPulse_eq burning taking, eq]

/-- Settles O35. -/
theorem pulseEndIsCounted : Obligations.PulseEndIsCounted := by
  intro k l x s powered state driven burning taking
  refine ⟨fun e _ => ⟨_, exec_pulseEnd powered k true, ?_⟩, fun unfixed => ?_, fun e fixed => ?_⟩
  · rw [State.pulseEnded]
    simp only [Channel.pulsing_iff, state, driven, and_self, if_true, State.countPulse_eq burning taking]
    refine ⟨(State.modChan_chan ..).trans ?_, rfl, fun j hj => (State.modChan_chan_ne _ _ hj).trans ?_, rfl⟩
    · rw [State.chan_withDrt, State.withChans_chan]
      rfl
    · rw [State.chan_withDrt, State.withChans_chan_ne hj]
  · have ending : (s.chan k).endingOr .driverFault = .driverFault := by simp [Channel.endingOr, unfixed]
    obtain ⟨t, run, ended, drt, ends, fu, others, frame⟩ := exec_pulseEnd_fault powered state driven burning taking ending
    exact ⟨t, run, ended, drt, ends, fu.trans (State.reportEnding_fu (.inr rfl) ..), others, frame⟩
  · have ending : (s.chan k).endingOr .driverFault = e := by simp [Channel.endingOr, fixed.fixed]
    obtain ⟨t, run, ended, drt, ends, fu, others, frame⟩ := exec_pulseEnd_fault powered state driven burning taking ending
    rw [if_neg fixed.ne_adopted] at ends
    exact ⟨t, run, ended, drt, ends, fu.trans (State.reportEnding_fixed_halt fixed.interrupts ..), others, frame⟩

end

end Sys2Proof.Machine
end

section
/-!
PROOFS. The measurements of a burn: after a pulse (O36), and in the final verify (O37).
-/

namespace Sys2Proof.Machine

/-- A burn that runs out under an ending fixed by an interruption ends with it (R121, R122, R124). -/
theorem State.finishBurn_fixed {k : Site} {l : SlotId} {x : Taking} {e : Ending} {s : State}
    (fixed : Channel.FixedBy l x e (s.chan k)) (past : (s.chan k).state.past = true) :
    ∃ t, s.finishBurn k e false = t ∧ Channel.EndedBy l x e false (s.chan k) (t.chan k) ∧ State.EndsAt k .ending s t ∧
      t.fu = s.fu.fixedEnding k x.pos s.lc.clock e ∧ (∀ j, j ≠ k → t.chan j = s.chan j) ∧
      { t with chans := s.chans, port := s.port, fu := s.fu, du := s.du } = s := by
  obtain ⟨t, eq, ended, ends, fu, others, frame⟩ :=
    State.finishBurn_written_same (k := k) (e := e) (halt := false) s fixed.slot fixed.taking past
  rw [State.withChans_self] at eq
  rw [if_neg fixed.ne_adopted] at ends
  exact ⟨t, eq, ended, ends, fu.trans (State.reportEnding_fixed fixed.interrupts ..), others, frame⟩

/-! ### The measurement after a pulse (O36) -/

theorem exec_fuseMeasurementDone {s : State} (powered : s.powered = true) (k : Site) (code : BitVec 10) :
    exec (.fuseMeasurementDone k code) s = .next (s.fuseMeasured k code) := congrArg _ (State.live_powered powered _)

@[simp] theorem Channel.acceptFuse_slot (f : Fuse) (c : Channel) (l : SlotId) : (c.acceptFuse f).slot l = c.slot l := by
  cases l <;> rfl

/-- The remaining set does not outlive a burn, so what stood in it does not matter to the ending. -/
theorem Channel.endedBy_remaining {l : SlotId} {x : Taking} {e : Ending} {halt : Bool} {c c' : Channel} (rem : Image) :
    Channel.EndedBy l x e halt { c with remaining := rem } c' ↔ Channel.EndedBy l x e halt c c' := by
  cases l <;> exact Iff.rfl

theorem Channel.endedBy_acceptFuse {l : SlotId} {x : Taking} {e : Ending} {halt : Bool} {c c' : Channel} {f : Fuse}
    (h : Channel.EndedBy l x e halt (c.acceptFuse f) c') :
    Channel.EndedBy l x e halt { c with attBits := c.attBits + 1 } c' := by
  cases f with
  | array n => exact (Channel.endedBy_remaining (c := { c with attBits := c.attBits + 1 }) _).mp h
  | lock => exact h

section
variable {k : Site} {l : SlotId} {x : Taking} {s : State} {f : Fuse} {sn : Snapshot}

/-- An acceptance counted at the channel and in the record (R56, R114). -/
theorem State.acceptFuse_eq (burning : (s.chan k).burning = some l) (taking : ((s.chan k).slot l).taking = some x) :
    s.acceptFuse k f =
      (s.withChans (s.chans.set k ((s.chan k).acceptFuse f))).withDrt (s.drt.modify x.idx DieRecord.bitAccepted) := by
  rw [State.acceptFuse, Channel.burningTaking_eq burning taking]
  rfl

section
variable (state : (s.chan k).state = .programming ∨ (s.chan k).state = .locking)
  (measuring : (s.chan k).measuring = true) (fuse : (s.chan k).curFuse = some f)
  (snapshot : (s.chan k).snapshot = some sn)
include state measuring fuse snapshot

/-- An acceptance is counted, and then an ending fixed before it ends the burn (R114, R121). -/
theorem State.fuseMeasured_high_fixed {e : Ending} {code : BitVec 10}
    (high : sn.profile.tp ≤ correctedCode code (s.chan k).offset) (fixed : (s.chan k).ending = some e) :
    s.fuseMeasured k code = (s.acceptFuse k f).finishBurn k e false := by
  simp only [State.fuseMeasured, fuse, snapshot, Channel.pulsing_iff.mpr state, measuring, and_self, if_true, high, fixed]

theorem State.fuseMeasured_high {code : BitVec 10} (high : sn.profile.tp ≤ correctedCode code (s.chan k).offset)
    (unfixed : (s.chan k).ending = none) :
    s.fuseMeasured k code =
      if f = .lock then (s.acceptFuse k f).finishBurn k .locked false
      else (s.acceptFuse k f).modChan k (Channel.nextFuse sn.profile) := by
  simp only [State.fuseMeasured, fuse, snapshot, Channel.pulsing_iff.mpr state, measuring, and_self, if_true, high, unfixed]
  cases f <;> rfl

theorem State.fuseMeasured_low_fixed {e : Ending} {code : BitVec 10}
    (low : ¬sn.profile.tp ≤ correctedCode code (s.chan k).offset) (fixed : (s.chan k).ending = some e) :
    s.fuseMeasured k code = s.finishBurn k e false := by
  simp only [State.fuseMeasured, fuse, snapshot, Channel.pulsing_iff.mpr state, measuring, and_self, if_true, low, fixed,
    if_false]

theorem State.fuseMeasured_low {code : BitVec 10} (low : ¬sn.profile.tp ≤ correctedCode code (s.chan k).offset)
    (unfixed : (s.chan k).ending = none) :
    s.fuseMeasured k code =
      if (s.chan k).curPulses < sn.profile.pmax then
        s.modChan k fun c => { c with curWidth := nextWidth sn.profile c.curWidth, driving := false, measuring := false }
      else s.finishBurn k f.openEnding false := by
  simp only [State.fuseMeasured, fuse, snapshot, Channel.pulsing_iff.mpr state, measuring, and_self, if_true, low,
    unfixed, if_false]

end

end

/-- The channel goes on to the first fuse of what remains (R114). -/
theorem Channel.nextFuse_some {p : Profile} {c : Channel} {n : Nat} (h : firstFuse c.remaining = some n) :
    c.nextFuse p = { c with
      curFuse := some (.array n), curWidth := p.w0, curPulses := 0, driving := false, measuring := false } := by
  simp [Channel.nextFuse, h, Channel.startFuse]

/-- With nothing remaining the channel goes on to the final verify (R114). -/
theorem Channel.nextFuse_none {p : Profile} {c : Channel} (h : firstFuse c.remaining = none) :
    c.nextFuse p = { c with
      state := .verifying, curFuse := none, driving := false, measuring := false, readSoFar := 0, measured := 0 } := by
  simp [Channel.nextFuse, h]

/-- Settles O36: accepted or not, under a fixed ending or not, and by the fuse and the pulses left. -/
theorem fuseMeasurementDecides : Obligations.FuseMeasurementDecides := by
  intro k l x code f sn s powered state measuring fuse snapshot burning taking
  have past := Channel.past_of_pulsing state
  have accepted {e : Ending} := State.finishBurn_written (k := k) (l := l) (x := x) (e := e) (halt := false)
    (c := (s.chan k).acceptFuse f) (s.drt.modify x.idx DieRecord.bitAccepted) s burning
    (by rw [Channel.acceptFuse_slot]; exact taking) past
  have unaccepted {e : Ending} := State.finishBurn_written_same (k := k) (e := e) (halt := false) s burning taking past
  simp only [State.withChans_self] at unaccepted
  rw [exec_fuseMeasurementDone powered]
  refine ⟨fun e fixed => ?fixed, fun unfixed => ⟨fun n n' array high next => ?next, fun n array high last => ?last,
    fun lock high => ?locked, fun low left => ?wider, fun low spent => ?spent⟩⟩
  case fixed =>
    by_cases high : sn.profile.tp ≤ correctedCode code (s.chan k).offset
    · rw [State.fuseMeasured_high_fixed state measuring fuse snapshot high fixed.fixed,
        State.acceptFuse_eq burning taking]
      simp only [if_pos high]
      obtain ⟨t, eq, ended, drt, ends, fu, others, frame⟩ := accepted (e := e)
      rw [if_neg fixed.ne_adopted] at ends
      exact ⟨t, congrArg _ eq, Channel.endedBy_acceptFuse ended, drt, ends,
        fu.trans (State.reportEnding_fixed fixed.interrupts ..), others, frame⟩
    · rw [State.fuseMeasured_low_fixed state measuring fuse snapshot high fixed.fixed]
      simp only [if_neg high]
      obtain ⟨t, eq, ended, ends, fu, others, frame⟩ := State.finishBurn_fixed fixed past
      exact ⟨t, congrArg _ eq, ended, (congrArg State.drt frame :), ends, fu, others,
        congrArg (fun t : State => { t with drt := s.drt }) frame⟩
  case next =>
    subst array
    rw [State.fuseMeasured_high state measuring fuse snapshot high unfixed, if_neg Fuse.noConfusion,
      State.acceptFuse_eq burning taking]
    refine ⟨_, rfl, (State.modChan_chan ..).trans ?_, rfl, fun j hj => (State.modChan_chan_ne _ _ hj).trans ?_, rfl⟩
    · rw [State.chan_withDrt, State.withChans_chan, Channel.nextFuse_some (by exact next)]
      rfl
    · rw [State.chan_withDrt, State.withChans_chan_ne hj]
  case last =>
    subst array
    rw [State.fuseMeasured_high state measuring fuse snapshot high unfixed, if_neg Fuse.noConfusion,
      State.acceptFuse_eq burning taking]
    refine ⟨_, rfl, (State.modChan_chan ..).trans ?_, rfl, fun j hj => (State.modChan_chan_ne _ _ hj).trans ?_, rfl⟩
    · rw [State.chan_withDrt, State.withChans_chan, Channel.nextFuse_none (by exact last)]
      rfl
    · rw [State.chan_withDrt, State.withChans_chan_ne hj]
  case locked =>
    subst lock
    rw [State.fuseMeasured_high state measuring fuse snapshot high unfixed, if_pos rfl,
      State.acceptFuse_eq burning taking]
    obtain ⟨t, eq, ended, drt, ends, fu, others, frame⟩ := accepted (e := .locked)
    have calm : t.fu = s.fu := fu.trans (State.reportEnding_fu (.inl rfl) ..)
    refine ⟨t, congrArg _ eq, Channel.endedBy_acceptFuse ended, drt, ends, others, ?_⟩
    calc ({ t with chans := s.chans, drt := s.drt, port := s.port, du := s.du } : State)
        = { { t with chans := s.chans, drt := s.drt, port := s.port, fu := s.fu, du := s.du } with fu := t.fu } := rfl
      _ = s := by rw [frame, calm]
  case wider =>
    rw [State.fuseMeasured_low state measuring fuse snapshot (Nat.not_le.mpr low) unfixed, if_pos left]
    exact ⟨_, rfl, State.modChan_only rfl⟩
  case spent =>
    rw [State.fuseMeasured_low state measuring fuse snapshot (Nat.not_le.mpr low) unfixed, if_neg (Nat.not_lt.mpr spent)]
    have ending : f.openEnding = if f = .lock then .lockOpen else .bitOpen := by cases f <;> rfl
    obtain ⟨t, eq, ended, ends, fu, others, frame⟩ := unaccepted (e := f.openEnding)
    refine ⟨t, congrArg _ eq, ending ▸ ended, ?_, fu.trans ?_, others, frame⟩
    · cases f <;> exact ends
    · rw [State.reportEnding_fu (.inl rfl)]
      cases f <;> rfl

/-! ### Fuses of an image -/

theorem fuse_of_ge {i : Image} {n : Nat} (h : 352 ≤ n) : fuse i n = false := BitVec.getMsbD_of_ge i n h

theorem lt_of_fuse {i : Image} {n : Nat} (h : fuse i n = true) : n < 352 := by
  by_contra out
  rw [fuse_of_ge (by omega)] at h
  cases h

theorem image_eq_zero_iff {r : Image} : r = 0 ↔ ∀ n : Fin 352, fuse r n = false := by
  constructor
  · rintro rfl n
    exact BitVec.getMsbD_zero
  · intro h
    apply BitVec.eq_of_getMsbD_eq
    intro n hn
    exact (h ⟨n, hn⟩).trans BitVec.getMsbD_zero.symm

theorem fuse_and_not (i r : Image) (n : Nat) : fuse (i &&& ~~~r) n = (fuse i n && !fuse r n) := by
  by_cases hn : n < 352
  · simp [fuse, hn]
  · simp [fuse_of_ge (Nat.not_lt.mp hn)]

theorem onlyBitsOf_iff {r i : Image} : onlyBitsOf r i = true ↔ ∀ n : Fin 352, fuse r n = true → fuse i n = true := by
  rw [onlyBitsOf, beq_iff_eq]
  refine image_eq_zero_iff.trans (forall_congr' fun n => ?_)
  rw [fuse_and_not]
  cases fuse r n <;> cases fuse i n <;> simp

theorem firstFuse_iff {i : Image} {n : Nat} :
    firstFuse i = some n ↔ fuse i n = true ∧ ∀ m, m < n → fuse i m = false := by
  rw [firstFuse, List.find?_range_eq_some]
  constructor
  · rintro ⟨set, -, clear⟩
    exact ⟨set, fun m hm => by simpa using clear m hm⟩
  · rintro ⟨set, clear⟩
    exact ⟨set, List.mem_range.mpr (lt_of_fuse set), fun m hm => by simp [clear m hm]⟩

/-! ### The final verify (O37) -/

theorem exec_verifyMeasurement {s : State} (powered : s.powered = true) (k : Site) (code : BitVec 10) :
    exec (.verifyMeasurement k code) s = .next (s.verifyMeasured k code) := congrArg _ (State.live_powered powered _)

/-- The read in progress with one more fuse measured (R109, R116, R129). -/
theorem Channel.recordFuse_eq (c : Channel) (tr : Nat) (code : BitVec 10) :
    c.recordFuse (c.readsOne tr code) = { c with
      measured := c.measured + 1
      readSoFar := if tr ≤ correctedCode code c.offset then c.readSoFar ||| fuseBit c.measured else c.readSoFar } := by
  simp [Channel.recordFuse, Channel.readsOne]

section
variable {k : Site} {s : State} {sn : Snapshot}

theorem State.verifyMeasured_fixed {e : Ending} (state : (s.chan k).state = .verifying)
    (snapshot : (s.chan k).snapshot = some sn) (fixed : (s.chan k).ending = some e) (code : BitVec 10) :
    s.verifyMeasured k code = s.finishBurn k e false := by
  unfold State.verifyMeasured
  dsimp only
  split
  · rw [fixed]
  · next h => exact absurd snapshot (h sn state)

theorem State.verifyMeasured_eq {r : Image} (state : (s.chan k).state = .verifying)
    (snapshot : (s.chan k).snapshot = some sn) (unfixed : (s.chan k).ending = none) {code : BitVec 10}
    (read : r = if sn.profile.tr ≤ correctedCode code (s.chan k).offset
      then (s.chan k).readSoFar ||| fuseBit (s.chan k).measured else (s.chan k).readSoFar) :
    s.verifyMeasured k code =
      if (s.chan k).measured + 1 < 352 then
        s.withChans (s.chans.set k { s.chan k with measured := (s.chan k).measured + 1, readSoFar := r })
      else (s.withChans (s.chans.set k { s.chan k with
        measured := (s.chan k).measured + 1, readSoFar := r })).verifyDecided k sn.profile r := by
  subst read
  unfold State.verifyMeasured
  dsimp only
  split
  · next sn' _ h =>
    cases snapshot.symm.trans h
    split
    · next e fixed => rw [unfixed] at fixed; cases fixed
    · rw [Channel.recordFuse_eq]; rfl
  · next h => exact absurd snapshot (h sn state)

/-- The decision of the final verify, on the burning slot's image (R116). -/
theorem State.verifyDecided_eq {l : SlotId} {i : Image} (burning : (s.chan k).burning = some l)
    (image : ((s.chan k).slot l).image = some i) (p : Profile) (r : Image) :
    s.verifyDecided k p r =
      if onlyBitsOf r i = false then s.finishBurn k .fuseConflict false
      else if r ≠ i then s.finishBurn k .verifyLoss false
      else if lockOption i then s.modChan k (Channel.startLocking p)
      else s.finishBurn k .verified false := by
  have staged : (s.chan k).stagedImage = some i := by simp [Channel.stagedImage, burning, image]
  rw [State.verifyDecided, staged]
  simp

end

/-- The read image differs from the staged one in a stray 1, else in a missing 1, or is equal to it with the lock option
clear: the ending and its fault (R116). -/
theorem State.verifyDecided_ends {k : Site} {l : SlotId} {i r : Image} {e : Ending} {fault : Option Nat} {s : State}
    (burning : (s.chan k).burning = some l) (image : ((s.chan k).slot l).image = some i) (p : Profile) :
    (if ∃ n : Fin 352, fuse r n = true ∧ fuse i n = false then e = .fuseConflict ∧ fault = some 42
      else if r ≠ i then e = .verifyLoss ∧ fault = some 43
      else lockOption i = false ∧ e = .verified ∧ fault = none) →
    s.verifyDecided k p r = s.finishBurn k e false ∧ e ≠ .adopted ∧ fault = e.fault := by
  have only : onlyBitsOf r i = true ↔ ¬∃ n : Fin 352, fuse r n = true ∧ fuse i n = false := by
    simp [onlyBitsOf_iff]
  rw [State.verifyDecided_eq burning image]
  split
  · next stray =>
    rintro ⟨rfl, rfl⟩
    exact ⟨if_pos (Bool.not_eq_true _ ▸ mt only.mp (not_not.mpr stray)), by decide, rfl⟩
  · next within =>
    rw [if_neg (c := onlyBitsOf r i = false) (by simp [only.mpr within])]
    split
    · rintro ⟨rfl, rfl⟩
      exact ⟨rfl, by decide, rfl⟩
    · rintro ⟨clear, rfl, rfl⟩
      exact ⟨if_neg (by simp [clear]), by decide, rfl⟩

/-- A measurement of the final verify that runs out under a fixed ending (R121). -/
theorem exec_verifyMeasurement_fixed {k : Site} {l : SlotId} {x : Taking} {e : Ending} {sn : Snapshot} {s : State}
    (powered : s.powered = true) (state : (s.chan k).state = .verifying) (snapshot : (s.chan k).snapshot = some sn)
    (fixed : Channel.FixedBy l x e (s.chan k)) (code : BitVec 10) :
    ∃ t, exec (.verifyMeasurement k code) s = .next t ∧
      Channel.EndedBy l x e false (s.chan k) (t.chan k) ∧ State.EndsAt k .ending s t ∧
      t.fu = s.fu.fixedEnding k x.pos s.lc.clock e ∧ (∀ j, j ≠ k → t.chan j = s.chan j) ∧
      { t with chans := s.chans, port := s.port, fu := s.fu, du := s.du } = s := by
  obtain ⟨t, eq, ended, ends, fu, others, frame⟩ := State.finishBurn_fixed fixed (by rw [state]; rfl)
  exact ⟨t, (exec_verifyMeasurement powered k code).trans
    (congrArg _ ((State.verifyMeasured_fixed state snapshot fixed.fixed code).trans eq)), ended, ends, fu, others, frame⟩

/-- Settles O37. -/
theorem finalVerifyDecides : Obligations.FinalVerifyDecides := by
  refine ⟨fun k code l x e sn s powered state snapshot fixed =>
      exec_verifyMeasurement_fixed powered state snapshot fixed code,
    fun k l x i r code sn s powered state unfixed snapshot burning taking image read => ?_⟩
  rw [exec_verifyMeasurement powered, State.verifyMeasured_eq state snapshot unfixed read]
  have slot (m : Nat) : ({ s.chan k with measured := m, readSoFar := r } : Channel).slot l = (s.chan k).slot l := by
    cases l <;> rfl
  have there (m : Nat) := State.withChans_chan k { s.chan k with measured := m, readSoFar := r } s
  have whole (last : (s.chan k).measured + 1 = 352) : ¬(s.chan k).measured + 1 < 352 := last ▸ lt_irrefl _
  refine ⟨fun more => ?more, fun last equal lock => ?locking, fun e fault last => ?ended⟩
  case more =>
    rw [if_pos (by omega)]
    exact ⟨_, rfl, there _, fun j hj => State.withChans_chan_ne hj .., rfl⟩
  case locking =>
    have only : onlyBitsOf r i = true := onlyBitsOf_iff.mpr fun n h => equal ▸ h
    have last : (s.chan k).measured + 1 = 352 := by omega
    rw [if_neg (whole last), last,
      State.verifyDecided_eq (by rw [there]; exact burning) (by rw [there, slot]; exact image),
      if_neg (by simp [only]), if_neg (by simp [equal]), if_pos lock, State.modChan_withChans]
    exact ⟨_, rfl, State.withChans_chan .., fun j hj => State.withChans_chan_ne hj .., rfl⟩
  case ended =>
    have last : (s.chan k).measured + 1 = 352 := by omega
    rw [if_neg (whole last), last]
    refine ?_ ∘ State.verifyDecided_ends (by rw [there 352]; exact burning) (by rw [there 352, slot 352]; exact image) sn.profile
    rintro ⟨decided, unadopted, rfl⟩
    obtain ⟨t, eq, ended, ends, fu, others, frame⟩ := State.finishBurn_written_same (k := k) (e := e) (halt := false)
      (c := { s.chan k with measured := 352, readSoFar := r }) s burning (by rw [slot]; exact taking)
      (by exact congrArg ChanState.past state)
    rw [if_neg unadopted] at ends
    exact ⟨t, congrArg _ (decided.trans eq), ended, ends, fu.trans (State.reportEnding_fu (.inl rfl) ..), others, frame⟩

end Sys2Proof.Machine
end

section
/-!
PROOFS. The blank check (O34): the classes of a die, the tests of adoption, and what the last measurement decides.
-/

namespace Sys2Proof.Machine

/-! ### Classes, remaining sets and tests of adoption -/

theorem imageValid_iff (r : Image) : imageValid r = true ↔ foldedSum (imageWords r) = 65535 := validWords_iff _

/-- The five classes, in the terms of the fuses (R76). -/
theorem classify_eq (r i : Image) (one : Bool) : classify r one i =
    if (∀ n : Fin 352, fuse r n = false) ∧ one = false then .blank
    else if r = i then .complete
    else if foldedSum (imageWords r) = 65535 ∨ one = true then .otherIdentity
    else if ∀ n : Fin 352, fuse r n = true → fuse i n = true then .partialImage
    else .conflict := by
  simp only [classify, image_eq_zero_iff, imageValid_iff, onlyBitsOf_iff]

/-- A corrected code is code plus offset, held in 0 to 1023 (R128). -/
theorem correctedCode_eq (code : BitVec 10) (off : Int) : (correctedCode code off : Int) =
    if code.toNat + off < 0 then 0 else if 1023 < code.toNat + off then 1023 else code.toNat + off := by
  unfold correctedCode
  split_ifs <;> omega

/-- The read serial is words 0 and 1 of the image (R75). -/
theorem readSerialOf_eq (r : Image) : readSerialOf r = joinWords (imageWord r 0) (imageWord r 1) := by
  have halves : r.extractLsb' 336 16 ++ r.extractLsb' 320 16 = r.extractLsb' 320 (16 + 16) :=
    BitVec.extractLsb'_append_extractLsb'_eq_extractLsb' (by omega)
  exact halves.symm

theorem readPos_eq_iff {r : Image} {p : Pos} : readPos r = p ↔ imageWord r 3 = posWord p := by
  rw [readPos]
  exact ⟨fun h => by rw [← h, posWord_wordPos], fun h => by rw [h, wordPos_posWord]⟩

/-- Tests 1 to 6 of adoption (R112). -/
theorem State.adoptable_iff (x : Taking) (r : Image) (s : State) :
    s.adoptable x r = true ↔ imageValid r = true ∧ readLotTag r = s.lc.header.lotTag ∧ readPos r = x.pos ∧
      s.inCommitted (readSerialOf r) = true ∧ readSerialOf r ≠ x.serial ∧
      ∃ rec, s.drt.records[x.idx]? = some rec ∧ rec.attempts = 1 ∧ rec.pulses = 0 := by
  rw [State.adoptable, State.recordAt]
  simp only [Bool.and_eq_true, beq_iff_eq, bne_iff_ne, and_assoc]
  cases s.drt.records[x.idx]? <;> simp

/-! ### The measurements -/

theorem exec_blankCheckMeasurement {s : State} (powered : s.powered = true) (k : Site) (code : BitVec 10) :
    exec (.blankCheckMeasurement k code) s = .next (s.blankMeasured k code) := congrArg _ (State.live_powered powered _)

/-- The channel that has measured the lock fuse and formed R, L and the class (R109, R110). -/
def Channel.classified (one : Bool) (cl : DieClass) (c : Channel) : Channel :=
  { c with readImage := some c.readSoFar, lockRead := some one, cls := some cl, measured := 353 }

@[simp] theorem Channel.classified_slot (one : Bool) (cl : DieClass) (c : Channel) (l : SlotId) :
    (c.classified one cl).slot l = c.slot l := by
  cases l <;> rfl

section

variable {k : Site} {code : BitVec 10} {sn : Snapshot} {s : State}

theorem State.blankMeasured_fixed {e : Ending} (state : (s.chan k).state = .checking)
    (snapshot : (s.chan k).snapshot = some sn) (awaits : (s.chan k).lookupWait = false)
    (fixed : (s.chan k).ending = some e) : s.blankMeasured k code = s.finishBurn k e false := by
  unfold State.blankMeasured
  dsimp only
  split
  · rw [fixed, if_neg (by simp [awaits])]
  · next h => exact absurd snapshot (h sn state)

theorem State.blankMeasured_eq (state : (s.chan k).state = .checking) (snapshot : (s.chan k).snapshot = some sn)
    (awaits : (s.chan k).lookupWait = false) (unfixed : (s.chan k).ending = none) :
    s.blankMeasured k code =
      if (s.chan k).measured < 352 then s.modChan k (Channel.recordFuse ((s.chan k).readsOne sn.profile.tr code))
      else s.blankDecided k sn.profile (decide (sn.profile.tr ≤ correctedCode code (s.chan k).offset)) := by
  unfold State.blankMeasured
  dsimp only
  split
  · next sn' _ h =>
    cases snapshot.symm.trans h
    rw [if_neg (by simp [awaits])]
    split
    · next e fixed => rw [unfixed] at fixed; cases fixed
    · rfl
  · next h => exact absurd snapshot (h sn state)

end

section

variable {k : Site} {p : Profile} {l : SlotId} {x : Taking} {i : Image} {one : Bool} {cl : DieClass} {s : State}

/-- What the last measurement of the blank check decides, by the class of the die (R110, R111). -/
theorem State.blankDecided_eq (burning : (s.chan k).burning = some l) (taking : ((s.chan k).slot l).taking = some x)
    (image : ((s.chan k).slot l).image = some i) (place : cl = classify (s.chan k).readSoFar one i) :
    s.blankDecided k p one =
      if cl = .blank ∨ cl = .partialImage then
        (s.withChans (s.chans.set k ((s.chan k).classified one cl))).modChan k
          (Channel.startProgramming (remainingSet cl (s.chan k).readSoFar i) p)
      else if cl = .complete then
        if one then (s.withChans (s.chans.set k ((s.chan k).classified one cl))).finishBurn k .locked false
        else if lockOption i then
          (s.withChans (s.chans.set k ((s.chan k).classified one cl))).modChan k (Channel.startLocking p)
        else (s.withChans (s.chans.set k ((s.chan k).classified one cl))).finishBurn k .verified false
      else if cl = .otherIdentity then
        (s.withChans (s.chans.set k ((s.chan k).classified one cl))).testAdoption k x (s.chan k).readSoFar
      else (s.withChans (s.chans.set k ((s.chan k).classified one cl))).finishBurn k .fuseConflict false := by
  have staged : (s.chan k).stagedImage = some i := by simp [Channel.stagedImage, burning, image]
  unfold State.blankDecided
  dsimp only
  rw [Channel.burningTaking_eq burning taking, staged]
  dsimp only
  have formed : (s.modChan k fun c => { c with
      readImage := some (s.chan k).readSoFar, lockRead := some one, cls := some cl, measured := 353 }) =
      s.withChans (s.chans.set k ((s.chan k).classified one cl)) := rfl
  rw [← place, formed]
  cases cl <;> simp

/-- The ending a class has at once (R111), and the fault it reports (R118). -/
theorem State.blankDecided_ends {e : Ending} (burning : (s.chan k).burning = some l)
    (taking : ((s.chan k).slot l).taking = some x) (image : ((s.chan k).slot l).image = some i)
    (place : cl = classify (s.chan k).readSoFar one i)
    (decision : (cl = .complete ∧ one = true ∧ e = .locked) ∨
      (cl = .complete ∧ one = false ∧ lockOption i = false ∧ e = .verified) ∨
      (cl = .otherIdentity ∧ s.adoptable x (s.chan k).readSoFar = false ∧ e = .foreignDie) ∨
      (cl = .conflict ∧ e = .fuseConflict)) :
    s.blankDecided k p one = (s.withChans (s.chans.set k ((s.chan k).classified one cl))).finishBurn k e false ∧
      e ≠ .adopted ∧ e.fault = if e = .fuseConflict then some 42 else none := by
  rw [State.blankDecided_eq burning taking image place]
  rcases decision with ⟨rfl, rfl, rfl⟩ | ⟨rfl, rfl, clear, rfl⟩ | ⟨rfl, unfit, rfl⟩ | ⟨rfl, rfl⟩
  · exact ⟨rfl, by decide, rfl⟩
  · exact ⟨by simp [clear], by decide, rfl⟩
  · have there : (s.withChans (s.chans.set k ((s.chan k).classified one .otherIdentity))).adoptable x
        (s.chan k).readSoFar = false := unfit
    exact ⟨by simp [State.testAdoption, there], by decide, rfl⟩
  · exact ⟨rfl, by decide, rfl⟩

end

/-- Settles O34: the classes and tests in the terms of the fuses, then each measurement. -/
theorem blankCheckReadsAndClassifies : Obligations.BlankCheckReadsAndClassifies := by
  refine ⟨classify_eq, fun r i n => ⟨rfl, fuse_and_not i r n, firstFuse_iff⟩, correctedCode_eq, ?adoptable, ?fixed, ?unfixed⟩
  case adoptable =>
    rintro x r n s rfl
    rw [State.adoptable_iff, imageValid_iff, readPos_eq_iff, readSerialOf_eq]
    simp only [State.inCommitted, Bool.and_eq_true, decide_eq_true_eq, and_assoc]
    rfl
  case fixed =>
    intro k code l x e sn s powered state snapshot awaits fixed
    rw [exec_blankCheckMeasurement powered, State.blankMeasured_fixed state snapshot awaits fixed.fixed]
    obtain ⟨t, eq, rest⟩ := State.finishBurn_fixed fixed (by rw [state]; rfl)
    exact ⟨t, congrArg _ eq, rest⟩
  case unfixed =>
    intro k code sn s powered state snapshot awaits unfixed
    rw [exec_blankCheckMeasurement powered, State.blankMeasured_eq state snapshot awaits unfixed]
    refine ⟨fun more => ?more, fun l x i one cl whole burning taking image read place => ?whole⟩
    case more =>
      rw [if_pos more]
      exact ⟨_, rfl, State.modChan_only (Channel.recordFuse_eq ..)⟩
    case whole =>
      have there {c : Channel} : (s.withChans (s.chans.set k c)).chan k = c ∧
          ∀ j, j ≠ k → (s.withChans (s.chans.set k c)).chan j = s.chan j :=
        ⟨State.withChans_chan .., fun j hj => State.withChans_chan_ne hj ..⟩
      rw [if_neg (by omega), ← read]
      refine ⟨fun n misses first => ?missing, fun complete unlocked lock => ?locking, fun other fit => ?lookup,
        fun e decision => ?ended⟩
      case missing =>
        rw [State.blankDecided_eq burning taking image place, if_pos misses, State.modChan_withChans,
          Channel.startProgramming, Channel.nextFuse_some (by exact first)]
        exact ⟨_, rfl, there.1, there.2, rfl⟩
      case locking =>
        rw [State.blankDecided_eq burning taking image place, if_neg (by simp [complete]), if_pos complete,
          if_neg (by simp [unlocked]), if_pos lock, State.modChan_withChans]
        exact ⟨_, rfl, there.1, there.2, rfl⟩
      case lookup =>
        rw [State.blankDecided_eq burning taking image place, if_neg (by simp [other]), if_neg (by simp [other]),
          if_pos other, State.testAdoption, if_pos (by exact fit), State.modChan_withChans]
        exact ⟨_, rfl, there.1, rfl, there.2, rfl⟩
      case ended =>
        obtain ⟨decided, unadopted, fault⟩ :=
          State.blankDecided_ends (p := sn.profile) burning taking image place decision
        obtain ⟨t, eq, ended, ends, fu, others, frame⟩ := State.finishBurn_written_same (k := k) (e := e) (halt := false)
          (c := (s.chan k).classified one cl) s burning (by rw [Channel.classified_slot]; exact taking)
          (by exact congrArg ChanState.past state)
        rw [if_neg unadopted] at ends
        refine ⟨t, congrArg _ (decided.trans eq), ended, ends, fu.trans ?_, others, frame⟩
        rw [State.reportEnding_fu (.inl rfl), fault]
        by_cases conflict : e = .fuseConflict
        · rw [if_pos conflict, if_pos conflict]
        · rw [if_neg conflict, if_neg conflict]

end Sys2Proof.Machine
end

section
/-!
PROOFS. The accesses of a PREPARE that wait at the table's port: claim clearing (O28), binding (O26), slot access (O27)
and lookup (O25).
-/

namespace Sys2Proof.Machine

/-- An access that keeps what the counters count: the record and its page's mark; no count moves. -/
theorem Table.modify_uncounted {d : Table} {i : Nat} {r : DieRecord} (h : d.records[i]? = some r)
    {f : DieRecord → DieRecord} (state : (f r).state = r.state) (exhausted : (f r).exhausted = r.exhausted)
    (recovered : (f r).recovered = r.recovered) :
    d.modify i f = { d with records := d.records.set i (f r), marks := d.marks.setIfInBounds (i / 64) true } := by
  rw [Table.modify_some h, Counters.change_same d.counts state exhausted recovered]

section

variable {k : Site} {q : PrepReq} {rest : List PortEntry} {m : Nat} {s : State}

/-! ### The commands that take the accesses -/

theorem exec_claimClearing {i : Nat} (powered : s.powered = true)
    (front : s.port = { access := .clearing i, site := k, moment := m } :: rest) :
    exec (.claimClearing k) s = .next ((s.withPort rest).clearClaim k i) := by
  refine congrArg _ ((State.live_powered powered _).trans ?_)
  rw [State.takeClearing, State.takeAccess_front (b := false) front rfl rfl]

theorem exec_serialBinding (powered : s.powered = true)
    (front : s.port = { access := .binding, site := k, moment := m } :: rest) :
    exec (.serialBinding k) s = .next ((s.withPort rest).prepareAccess k .binding) := by
  refine congrArg _ ((State.live_powered powered _).trans ?_)
  rw [State.takeBinding, State.takeAccess_front (b := false) front rfl rfl]

theorem exec_slotAccess (powered : s.powered = true)
    (front : s.port = { access := .slotTaking, site := k, moment := m } :: rest) :
    exec (.slotAccess k) s = .next ((s.withPort rest).prepareAccess k .slotTaking) := by
  refine congrArg _ ((State.live_powered powered _).trans ?_)
  rw [State.takeSlot, State.takeAccess_front (b := false) front rfl rfl]

theorem exec_prepareLookup (powered : s.powered = true)
    (front : s.port = { access := .lookup, site := k, moment := m } :: rest) :
    exec (.prepareLookup k) s = .next ((s.withPort rest).prepareAccess k .lookup) := by
  refine congrArg _ ((State.live_powered powered _).trans ?_)
  rw [State.takeLookup, State.takeAccess_front (b := false) front rfl rfl]

/-! ### What the phase lets them do -/

theorem State.prepareAccess_binding {i : Nat} {n : Serial} (cmd : (s.site k).cmd = some q) (phase : q.phase = .binding i n) :
    s.prepareAccess k .binding = s.bindAccess k i n := by
  unfold State.prepareAccess
  rw [cmd]
  dsimp only
  rw [phase]

theorem State.prepareAccess_slotTaking {i : Nat} (cmd : (s.site k).cmd = some q) (phase : q.phase = .slotTaking i) :
    s.prepareAccess k .slotTaking = s.slotAccess k i := by
  unfold State.prepareAccess
  rw [cmd]
  dsimp only
  rw [phase]

theorem State.prepareAccess_lookup (cmd : (s.site k).cmd = some q) (phase : q.phase = .lookup) :
    s.prepareAccess k .lookup = s.lookupTaken k q.pos := by
  unfold State.prepareAccess
  rw [cmd]
  dsimp only
  rw [phase]

/-- A claim that still stands is cleared (R52). -/
theorem State.clearClaim_standing {i : Nat} {r : DieRecord} (record : s.drt.records[i]? = some r)
    (claim : r.holder = some { site := k, slot := none }) :
    s.clearClaim k i = s.withDrt { s.drt with
      records := s.drt.records.set i { r with holder := none }
      marks := s.drt.marks.setIfInBounds (i / 64) true } := by
  rw [State.clearClaim, State.recordAt, record]
  dsimp only
  rw [if_pos claim, State.modRecord_eq, Table.modify_unheld record]

/-- The PREPARE on the lane goes on to a phase (R46). -/
theorem State.setPhase_eq (cmd : (s.site k).cmd = some q) (ph : PrepPhase) :
    s.setPhase k ph = s.withSites (s.sites.set k { s.site k with cmd := some { q with phase := ph } }) := by
  rw [State.setPhase, State.modSite_eq]
  simp only [cmd, Option.map_some]

end

/-- Settles O28. -/
theorem claimIsCleared : Obligations.ClaimIsCleared := by
  intro k i r rest m s powered front record claim
  rw [exec_claimClearing powered front, State.clearClaim_standing (by exact record) claim]
  rfl

/-- Settles O26. -/
theorem bindingFillsTheSerial : Obligations.BindingFillsTheSerial := by
  intro k q i n r rest m s powered cmd phase front record
  refine ⟨_, (exec_serialBinding powered front).trans
    (congrArg _ (State.prepareAccess_binding (by exact cmd) phase)), ?_⟩
  have entry (e : Site) : (s.wt.map fun x => if x.content = .serial n then x.hit else x).get e =
      if (s.wt.get e).content = .serial n then { s.wt.get e with hits := min 255 ((s.wt.get e).hits + 1) }
      else s.wt.get e := Four.get_map _ _ e
  have holds : (s.withPort rest).watchHolds (WatchContent.atSerial n) = true ↔
      ∃ e, (s.wt.get e).content = .serial n ∧ (s.wt.get e).hold = true := by
    simp only [State.watchHolds_iff, WatchContent.atSerial_iff]
    rfl
  have bound : (s.withPort rest).drt.modify i (DieRecord.bound n) = { s.drt with
      records := s.drt.records.set i { r with serial := some n }
      marks := s.drt.marks.setIfInBounds (i / 64) true } := Table.modify_uncounted (by exact record) rfl rfl rfl
  simp only [State.bindAccess, State.watchHits_eq, WatchContent.atSerial_iff, State.modRecord_eq, bound]
  by_cases held : ∃ e, (s.wt.get e).content = .serial n ∧ (s.wt.get e).hold = true
  · simp only [if_pos held, if_pos (holds.mpr held)]
    rw [State.setPhase_eq (q := q) (by exact cmd)]
    exact ⟨rfl, entry, rfl, Four.get_set_same .., fun j hj => Four.get_set_ne _ _ hj, rfl, rfl⟩
  · simp only [if_neg held, if_neg (mt holds.mp held)]
    rw [State.toSlot, State.setPhase_eq (q := q) (by exact cmd)]
    exact ⟨rfl, entry, rfl, Four.get_set_same .., fun j hj => Four.get_set_ne _ _ hj, rfl, rfl⟩

/-- The slot a channel has free: slot A before slot B (R50). -/
theorem Channel.freeSlot_eq {c : Channel} {l : SlotId} (choice : l = if c.slotA.state = .empty then SlotId.a else .b)
    (empty : (c.slot l).state = .empty) : c.freeSlot = some l := by
  unfold Channel.freeSlot
  by_cases first : c.slotA.state = .empty
  · rw [if_pos first, choice, if_pos first]
  · rw [if_neg first] at choice ⊢
    subst choice
    rw [if_pos (by exact empty)]

/-- The slot access on a claimed record with a serial: slot, record, derivation entry and reply (R50). -/
theorem State.slotAccess_eq {k : Site} {i : Nat} {n : Serial} {l : SlotId} {r : DieRecord} {s : State}
    (free : (s.chan k).freeSlot = some l) (record : s.drt.records[i]? = some r) (serial : r.serial = some n) :
    s.slotAccess k i = State.answerPrepare k 0 [wordOf i, hiWord n, loWord n, wordOf l.code, wordOf r.attempts]
      ((((s.withChans (s.chans.set k ((s.chan k).setSlot l
        (((s.chan k).slot l).taken { idx := i, pos := r.pos, serial := n })))).withDrt { s.drt with
          records := s.drt.records.set i { r with holder := some { site := k, slot := some l } }
          marks := s.drt.marks.setIfInBounds (i / 64) true }).withDu
        (s.placedEntry (.slot k l n r.pos s.lc.header.lotTag)))) := by
  have slotted : s.drt.modify i (DieRecord.slotted k l) = { s.drt with
      records := s.drt.records.set i { r with holder := some { site := k, slot := some l } }
      marks := s.drt.marks.setIfInBounds (i / 64) true } := Table.modify_uncounted record rfl rfl rfl
  rw [← slotted]
  unfold State.slotAccess
  rw [free, State.recordAt, record]
  dsimp only
  split
  · next none => cases serial.symm.trans none
  · next n' some =>
    cases serial.symm.trans some
    exact congrArg (State.answerPrepare k _ _) (State.duPlace_eq ..)

/-- Settles O27. -/
theorem slotAccessStartsTheDerivation : Obligations.SlotAccessStartsTheDerivation := by
  intro k q i n l r rest m s powered cmd phase alone front record serial choice empty
  refine ⟨_, (exec_slotAccess powered front).trans
    (congrArg _ (State.prepareAccess_slotTaking (by exact cmd) phase)), ?_⟩
  rw [State.slotAccess_eq (n := n) (l := l) (r := r) (Channel.freeSlot_eq (by exact choice) (by exact empty))
    (by exact record) serial]
  refine ⟨Four.get_set_same .., fun j hj => ⟨Four.get_set_ne _ _ hj, State.answerPrepare_other hj ..⟩, rfl, rfl,
    (State.modSite_site ..).trans (SiteLink.answerCmd_alone (by exact cmd) (by exact alone) ..), rfl, rfl⟩

/-! ### A draw beside the table (R24) -/

theorem State.queueAdvance_frame (k : Site) (s : State) :
    { s.queueAdvance k with sa := s.sa, js := s.js, fu := s.fu } = s := by
  rw [State.queueAdvance_eq]
  rfl

theorem State.setExhausted_frame (s : State) : { s.setExhausted with sa := s.sa, js := s.js, fu := s.fu } = s := by
  unfold State.setExhausted
  dsimp only
  split <;> rfl

theorem State.prefetch_frame (k : Site) (s : State) :
    { s.prefetch k with sa := s.sa, js := s.js, fu := s.fu } = s := by
  unfold State.prefetch
  split
  · split
    · exact State.queueAdvance_frame k s
    · exact State.setExhausted_frame s
  · rfl

/-- A draw reaches the allocator, the journal store and the alert flags alone. -/
theorem State.draw_frame (k : Site) (s : State) :
    { (s.draw k).1 with sa := s.sa, js := s.js, fu := s.fu } = s := by
  have taken (b : Block) (n : NextBlock) : { s.takeSerial k b n with sa := s.sa, js := s.js, fu := s.fu } = s :=
    congrArg (fun t : State => { t with sa := s.sa }) (State.prefetch_frame k (s.drawnFrom k b n))
  unfold State.draw
  dsimp only
  split
  · exact taken ..
  · split
    · exact taken ..
    · rfl
    · split
      · rfl
      · split
        · exact State.queueAdvance_frame k s
        · exact State.setExhausted_frame s

/-- The state with another table and other accesses waiting. -/
def State.beside (d : Table) (rest : List PortEntry) (s : State) : State := (s.withPort rest).withDrt d

theorem State.queueAdvance_beside (k : Site) (d : Table) (rest : List PortEntry) (s : State) :
    (s.beside d rest).queueAdvance k = (s.queueAdvance k).beside d rest := by
  rw [State.queueAdvance_eq, State.queueAdvance_eq]
  rfl

theorem State.setExhausted_beside (d : Table) (rest : List PortEntry) (s : State) :
    (s.beside d rest).setExhausted = s.setExhausted.beside d rest := by
  have flag : (s.beside d rest).sa = s.sa := rfl
  unfold State.setExhausted
  dsimp only
  rw [flag]
  split <;> rfl

theorem State.prefetch_beside (k : Site) (d : Table) (rest : List PortEntry) (s : State) :
    (s.beside d rest).prefetch k = (s.prefetch k).beside d rest := by
  have due : (s.beside d rest).prefetchDue k = s.prefetchDue k := rfl
  have window : (s.beside d rest).windowAllows = s.windowAllows := rfl
  unfold State.prefetch
  rw [due, window]
  split
  · split
    · exact State.queueAdvance_beside k d rest s
    · exact State.setExhausted_beside d rest s
  · rfl

/-- A draw depends neither on the table nor on the accesses that wait. -/
theorem State.draw_beside (k : Site) (d : Table) (rest : List PortEntry) (s : State) :
    (s.beside d rest).draw k = ((s.draw k).1.beside d rest, (s.draw k).2) := by
  have taken (b : Block) (n : NextBlock) :
      (s.beside d rest).takeSerial k b n = (s.takeSerial k b n).beside d rest :=
    State.prefetch_beside k d rest (s.drawnFrom k b n)
  have blocks : (s.beside d rest).sa = s.sa := rfl
  have window : (s.beside d rest).windowAllows = s.windowAllows := rfl
  unfold State.draw
  dsimp only
  rw [blocks, window]
  split
  · rw [taken]
  · split
    · rw [taken]
    · rfl
    · split
      · rfl
      · split
        · rw [State.queueAdvance_beside]
        · rw [State.setExhausted_beside]

section

variable {k : Site} {q : PrepReq} {i : Nat} {d : Table} {rest : List PortEntry} {s v : State}

/-- A draw leaves the lanes and the time. -/
theorem State.draw_sites {a : DrawResult} (draw : s.draw k = (v, a)) : v.sites = s.sites ∧ v.now = s.now := by
  have frame := State.draw_frame k s
  rw [draw] at frame
  exact ⟨(congrArg State.sites frame :), (congrArg State.now frame :)⟩

/-- A drawn serial has its binding placed (R24, R49). -/
theorem State.drawStep_drawn {n : Serial} (running : s.fu.partStopped = false) (cmd : (s.site k).cmd = some q)
    (draw : s.draw k = (v, .drawn n)) :
    (s.beside d rest).drawStep k i = { v with
      drt := d
      sites := s.sites.set k { s.site k with cmd := some { q with phase := .binding i n } }
      port := rest ++ [{ access := .binding, site := k, moment := s.now }] } := by
  obtain ⟨sites, now⟩ := State.draw_sites draw
  have site : s.site k = v.site k := congrArg (Four.get · k) sites.symm
  rw [site] at cmd
  unfold State.drawStep
  rw [if_neg (by simp [State.beside, running]), State.draw_beside, draw]
  dsimp only
  rw [State.setPhase_eq (q := q) (by exact cmd), site, ← sites, ← now]
  rfl

/-- A draw that waits keeps the PREPARE that no ABORT found (R25). -/
theorem State.drawStep_waits (running : s.fu.partStopped = false) (cmd : (s.site k).cmd = some q)
    (unmarked : q.aborted = false) (draw : s.draw k = (v, .waits)) :
    (s.beside d rest).drawStep k i = { v with
      drt := d
      sites := s.sites.set k { s.site k with cmd := some { q with phase := .waitBlock i } }
      port := rest } := by
  obtain ⟨sites, -⟩ := State.draw_sites draw
  have site : s.site k = v.site k := congrArg (Four.get · k) sites.symm
  have goes : (s.beside d rest).prepareAborted k = false := by
    have here : ((s.beside d rest).site k).cmd = some q := cmd
    rw [State.prepareAborted, here]
    exact unmarked
  rw [site] at cmd
  unfold State.drawStep
  rw [if_neg (by simp [State.beside, running]), State.draw_beside, draw]
  dsimp only
  rw [goes, if_neg Bool.false_ne_true, State.setPhase_eq (q := q) (by exact cmd), site, ← sites]
  rfl

/-- With no serial the PREPARE is answered LOT EXHAUSTED and its claim is to be cleared (R24, R52). -/
theorem State.drawStep_exhausted (running : s.fu.partStopped = false) (draw : s.draw k = (v, .exhausted)) :
    (s.beside d rest).drawStep k i = State.answerPrepare k 38 [] { v with
      drt := d
      port := rest ++ [{ access := .clearing i, site := k, moment := s.now }] } := by
  obtain ⟨-, now⟩ := State.draw_sites draw
  unfold State.drawStep
  rw [if_neg (by simp [State.beside, running]), State.draw_beside, draw]
  dsimp only
  rw [← now]
  rfl

end

/-! ### The lookup (R47) -/

theorem SiteLink.answerCmd_free (c : Word) (ws : List Word) (sl : SiteLink) : (sl.answerCmd c ws).cmd = none := by
  unfold SiteLink.answerCmd
  split
  · assumption
  · rfl

section

variable {k : Site} {q : PrepReq} {i : Nat} {r : DieRecord} {p : Pos} {s t : State}

/-- A lookup of a PREPARE that no ABORT found, which goes on or is answered: nothing follows it (R160). -/
theorem State.lookupTaken_eq (access : s.lookupAccess k p = t)
    (unmarked : ∀ q', (t.site k).cmd = some q' → q'.aborted = false) : s.lookupTaken k p = t := by
  rw [State.lookupTaken, access, State.modSite_eq]
  have same : (t.site k).lookupTaken = t.site k := by
    cases cmd : (t.site k).cmd with
    | none => exact SiteLink.lookupTaken_free cmd
    | some q' => exact SiteLink.lookupTaken_unmarked cmd (unmarked q' cmd)
  rw [same, State.site, Four.set_get]
  rfl

/-- A lookup that answers its PREPARE. -/
theorem State.lookupTaken_answered {c : Word} {ws : List Word} (access : s.lookupAccess k p = t.answerPrepare k c ws) :
    s.lookupTaken k p = t.answerPrepare k c ws := by
  refine State.lookupTaken_eq access fun q' cmd => ?_
  rw [State.answerPrepare, State.modSite_site, SiteLink.answerCmd_free] at cmd
  cases cmd

/-- A position without a record: refused, or its record is created and a draw asked for (R47, R48). -/
theorem State.lookupAccess_unknown (unknown : s.drt.lookup p = none) :
    s.lookupAccess k p =
      if (s.chan k).freeSlot = none then s.answerPrepare k 50 []
      else if s.drt.records.length < 8192 then
        (s.withDrt (s.drt.create p k s.lc.clock)).drawStep k s.drt.records.length
      else s.answerPrepare k 51 [] := by
  unfold State.lookupAccess State.slotFree
  rw [unknown]
  dsimp only
  cases (s.chan k).freeSlot <;> rfl

/-- A RESERVED record without a holder: claimed if a slot is free (R47, R49). -/
theorem State.lookupAccess_unheld (known : s.drt.lookup p = some i) (record : s.drt.records[i]? = some r)
    (state : r.state = .reserved) (holder : r.holder = none) : s.lookupAccess k p = s.claimReserved k i r := by
  unfold State.lookupAccess
  rw [known]
  dsimp only
  rw [State.recordAt, record]
  dsimp only
  rw [state, holder]

/-- A record that another site works on, or whose slot is not taken yet: DIE BUSY (R47, R164). -/
theorem State.lookupAccess_busy {h : Holder} (known : s.drt.lookup p = some i) (record : s.drt.records[i]? = some r)
    (holder : r.holder = some h)
    (busy : r.state = .burning ∨ r.state = .reserved ∧ (h.site ≠ k ∨ h.slot = none)) :
    s.lookupAccess k p = s.answerPrepare k 52 [wordOf i, wordOf h.site.val] := by
  have words : busyWords i r.holder = [wordOf i, wordOf h.site.val] := by rw [holder]; rfl
  unfold State.lookupAccess
  rw [known]
  dsimp only
  rw [State.recordAt, record]
  dsimp only
  rw [words, holder]
  rcases busy with state | ⟨state, other | unslotted⟩
  · rw [state]
    rfl
  · rw [state]
    dsimp only
    cases h.slot with
    | none => rfl
    | some l => exact if_neg other
  · rw [state]
    dsimp only
    rw [unslotted]
    rfl

/-- A record that the site holds in a slot: answered as at its slot access (R47). -/
theorem State.lookupAccess_own {l : SlotId} {n : Serial} (known : s.drt.lookup p = some i)
    (record : s.drt.records[i]? = some r) (state : r.state = .reserved)
    (holder : r.holder = some { site := k, slot := some l }) (serial : r.serial = some n) :
    s.lookupAccess k p = s.answerPrepare k 0 [wordOf i, hiWord n, loWord n, wordOf l.code, wordOf r.attempts] := by
  unfold State.lookupAccess
  rw [known]
  dsimp only
  rw [State.recordAt, record]
  dsimp only
  rw [state, holder, serial]
  exact if_pos rfl

/-- A record to be worked on, with no slot free (R47). -/
theorem State.lookupAccess_full (known : s.drt.lookup p = some i) (record : s.drt.records[i]? = some r)
    (work : r.state = .reserved ∧ r.holder = none ∨ (r.state = .interrupted ∨ r.state = .failed) ∧ r.exhausted = false)
    (full : (s.chan k).freeSlot = none) : s.lookupAccess k p = s.answerPrepare k 50 [] := by
  have free : s.slotFree k = false := by simp [State.slotFree, full]
  rcases work with ⟨state, holder⟩ | ⟨state, unmarked⟩
  · rw [State.lookupAccess_unheld known record state holder, State.claimReserved, free]
    rfl
  · unfold State.lookupAccess
    rw [known]
    dsimp only
    rw [State.recordAt, record]
    dsimp only
    rw [unmarked, free]
    rcases state with state | state <;> rw [state] <;> rfl

/-- A provisioned record (R47). -/
theorem State.lookupAccess_provisioned {n : Serial} (known : s.drt.lookup p = some i)
    (record : s.drt.records[i]? = some r) (state : r.state = .verified ∨ r.state = .locked) (serial : r.serial = some n) :
    s.lookupAccess k p = s.answerPrepare k 53 [wordOf i, hiWord n, loWord n, wordOf r.state.code] := by
  unfold State.lookupAccess
  rw [known]
  dsimp only
  rw [State.recordAt, record]
  dsimp only
  rw [serial]
  rcases state with state | state <;> rw [state] <;> rfl

/-- A record that may not be worked on (R47). -/
theorem State.lookupAccess_refused (known : s.drt.lookup p = some i) (record : s.drt.records[i]? = some r)
    (refused : (r.state = .interrupted ∨ r.state = .failed) ∧ r.exhausted = true ∨ r.state = .retired ∨
      r.state = .foreign ∨ r.state = .void) :
    s.lookupAccess k p = s.answerPrepare k 54 [wordOf i, wordOf r.state.code] := by
  unfold State.lookupAccess
  rw [known]
  dsimp only
  rw [State.recordAt, record]
  dsimp only
  rcases refused with ⟨state | state, exhausted⟩ | state | state | state
  · rw [state, exhausted]; rfl
  · rw [state, exhausted]; rfl
  all_goals rw [state]; rfl

/-- A free slot lets a RESERVED record without a serial ask for its draw (R49). -/
theorem State.lookupAccess_draws (known : s.drt.lookup p = some i) (record : s.drt.records[i]? = some r)
    (state : r.state = .reserved) (holder : r.holder = none) (serial : r.serial = none)
    (free : (s.chan k).freeSlot ≠ none) :
    s.lookupAccess k p = (s.withDrt { s.drt with
      records := s.drt.records.set i { r with holder := some { site := k, slot := none } }
      marks := s.drt.marks.setIfInBounds (i / 64) true }).drawStep k i := by
  have claimed : s.drt.modify i (DieRecord.claimed k) = _ := Table.modify_uncounted record rfl rfl rfl
  rw [State.lookupAccess_unheld known record state holder, State.claimReserved, State.slotFree,
    if_pos (Option.isSome_iff_ne_none.mpr free), State.modRecord_eq, claimed]
  dsimp only
  split
  · rfl
  · next bound => cases serial.symm.trans bound

/-- A claimed record with a serial has its slot access placed (R50). -/
theorem State.toSlot_eq (cmd : (s.site k).cmd = some q) : s.toSlot k i =
    (s.withSites (s.sites.set k { s.site k with cmd := some { q with phase := .slotTaking i } })).place .slotTaking k := by
  rw [State.toSlot, State.setPhase_eq cmd]

theorem State.lookupAccess_claims {n : Serial} (cmd : (s.site k).cmd = some q) (known : s.drt.lookup p = some i)
    (record : s.drt.records[i]? = some r) (state : r.state = .reserved) (holder : r.holder = none)
    (serial : r.serial = some n) (free : (s.chan k).freeSlot ≠ none) :
    s.lookupAccess k p = { s with
      drt := { s.drt with
        records := s.drt.records.set i { r with holder := some { site := k, slot := none } }
        marks := s.drt.marks.setIfInBounds (i / 64) true }
      sites := s.sites.set k { s.site k with cmd := some { q with phase := .slotTaking i } }
      port := s.port ++ [{ access := .slotTaking, site := k, moment := s.now }] } := by
  have claimed : s.drt.modify i (DieRecord.claimed k) = _ := Table.modify_uncounted record rfl rfl rfl
  rw [State.lookupAccess_unheld known record state holder, State.claimReserved, State.slotFree,
    if_pos (Option.isSome_iff_ne_none.mpr free), State.modRecord_eq, claimed]
  dsimp only
  split
  · next unbound => cases serial.symm.trans unbound
  · rw [State.toSlot_eq (q := q) (by exact cmd)]
    rfl

/-- An INTERRUPTED or FAILED record without the mark is taken up (R51). -/
theorem State.lookupAccess_takesUp (cmd : (s.site k).cmd = some q) (known : s.drt.lookup p = some i)
    (record : s.drt.records[i]? = some r) (state : r.state = .interrupted ∨ r.state = .failed)
    (unmarked : r.exhausted = false) (free : (s.chan k).freeSlot ≠ none) :
    s.lookupAccess k p = { s with
      drt := { s.drt with
        records := s.drt.records.set i { r with
          state := .reserved, holder := some { site := k, slot := none }, stamp := s.lc.clock }
        marks := s.drt.marks.setIfInBounds (i / 64) true
        counts := (s.drt.counts.lower r.state).raise .reserved }
      sites := s.sites.set k { s.site k with cmd := some { q with phase := .slotTaking i } }
      port := s.port ++ [{ access := .slotTaking, site := k, moment := s.now }] } := by
  have moves : s.drt.counts.change r (DieRecord.takenUp k s.lc.clock r) = (s.drt.counts.lower r.state).raise .reserved :=
    Counters.change_moved s.drt.counts (by rcases state with h | h <;> rw [h] <;> exact RecState.noConfusion) rfl rfl
  have goes : s.lookupAccess k p = (s.modRecord i (DieRecord.takenUp k s.lc.clock)).toSlot k i := by
    unfold State.lookupAccess
    rw [known]
    dsimp only
    rw [State.recordAt, record]
    dsimp only
    rw [unmarked, State.slotFree, Option.isSome_iff_ne_none.mpr free]
    rcases state with state | state <;> rw [state] <;> rfl
  rw [goes, State.modRecord_eq, Table.modify_some record, moves, State.toSlot_eq (q := q) (by exact cmd)]
  rfl

end

/-- Settles O25: the lookup by the record it finds, then the draw it asks for. -/
theorem lookupFollowsTheRecord : Obligations.LookupFollowsTheRecord := by
  intro k q rest m s powered running cmd phase unmarked front
  have runs {t : State} (access : (s.withPort rest).lookupTaken k q.pos = t) : exec (.prepareLookup k) s = .next t :=
    (exec_prepareLookup powered front).trans
      (congrArg _ ((State.prepareAccess_lookup (by exact cmd) phase).trans access))
  have answered {t : State} {c : Word} {ws : List Word}
      (access : (s.withPort rest).lookupAccess k q.pos = t.answerPrepare k c ws) :
      exec (.prepareLookup k) s = .next (t.answerPrepare k c ws) := runs (State.lookupTaken_answered access)
  have goes {t : State} {ph : PrepPhase} (access : (s.withPort rest).lookupAccess k q.pos = t)
      (lane : (t.site k).cmd = some { q with phase := ph }) : exec (.prepareLookup k) s = .next t :=
    runs (State.lookupTaken_eq access fun q' h => by cases lane.symm.trans h; exact unmarked)
  have lane {ph : PrepPhase} : ((s.sites.set k { s.site k with cmd := some { q with phase := ph } }).get k).cmd =
      some { q with phase := ph } := by rw [Four.get_set_same]
  refine ⟨fun d i v a draw free found => ?draw, fun unknown => ⟨fun full => ?slots, fun free whole => ?table, ?created⟩,
    fun i r known record => ⟨fun n state holder serial free => ?claims, fun state fresh free => ?takesUp,
      fun h state holder other => ?held, fun h state holder => ?burning, fun l n state holder serial => ?own,
      fun work full => ?full, fun n state serial => ?provisioned, fun refused => ?refused⟩⟩
  case draw =>
    have access : (s.withPort rest).lookupAccess k q.pos = (s.beside d rest).drawStep k i := by
      rcases found with ⟨unknown, room, rfl, rfl⟩ | ⟨r, known, record, state, holder, serial, rfl⟩
      · rw [State.lookupAccess_unknown (by exact unknown), if_neg (by exact free), if_pos (by exact room)]
        rfl
      · exact State.lookupAccess_draws known record state holder serial free
    refine ⟨fun n drawn => ?_, fun waits => ?_, fun exhausted => ?_⟩
    · subst drawn
      exact goes (access.trans (State.drawStep_drawn running cmd draw)) lane
    · subst waits
      exact goes (access.trans (State.drawStep_waits running cmd unmarked draw)) lane
    · subst exhausted
      exact answered (access.trans (State.drawStep_exhausted running draw))
  case slots =>
    exact answered ((State.lookupAccess_unknown (by exact unknown)).trans (if_pos (by exact full)))
  case table =>
    refine answered ((State.lookupAccess_unknown (by exact unknown)).trans ?_)
    rw [if_neg (by exact free), if_neg (by exact Nat.not_lt.mpr whole)]
  case created =>
    exact ⟨_, rfl, rfl, Table.create_lookup unknown .., fun p other => mapEntry_fillEntry_ne _ _ _ _ other, rfl, rfl⟩
  case claims =>
    exact goes (State.lookupAccess_claims (by exact cmd) known record state holder serial (by exact free)) lane
  case takesUp =>
    exact goes (State.lookupAccess_takesUp (by exact cmd) known record state fresh (by exact free)) lane
  case held => exact answered (State.lookupAccess_busy known record holder (.inr ⟨state, other⟩))
  case burning => exact answered (State.lookupAccess_busy known record holder (.inl state))
  case own => exact answered (State.lookupAccess_own known record state holder serial)
  case full => exact answered (State.lookupAccess_full known record work (by exact full))
  case provisioned => exact answered (State.lookupAccess_provisioned known record state serial)
  case refused => exact answered (State.lookupAccess_refused known record refused)

end Sys2Proof.Machine
end

section
/-!
PROOFS. The accesses of a burn channel that wait at the table's port: the ending write (O29), the serial lookup and the
adoption access (O30).
-/

namespace Sys2Proof.Machine

/-! ### Answers and the ABORTs behind them (R160) -/

/-- The ABORTs at the front that wait for nothing are answered DONE, in their order. -/
theorem SiteLink.settleAborts_split {sl : SiteLink} {done wait : List AbortWait} (aborts : sl.aborts = done ++ wait)
    (ready : ∀ a ∈ done, a.ready = true) (waits : ∀ a, wait.head? = some a → a.ready = false) :
    sl.settleAborts = { sl with
      aborts := wait
      io := { sl.io with replies := sl.io.replies ++ done.map fun a => ⟨0x04, a.tag, [0]⟩ } } := by
  have front : wait.takeWhile AbortWait.ready = [] ∧ wait.dropWhile AbortWait.ready = wait := by
    cases wait with
    | nil => exact ⟨rfl, rfl⟩
    | cons a rest =>
      have := waits a rfl
      exact ⟨List.takeWhile_cons_of_neg (by simp [this]), List.dropWhile_cons_of_neg (by simp [this])⟩
  rw [SiteLink.settleAborts, aborts, List.takeWhile_append_of_pos ready, List.dropWhile_append_of_pos ready, front.1,
    front.2, List.append_nil]

/-- The BURN is answered; ABORTs that waited for it alone are answered after it, the others go on waiting. -/
theorem SiteLink.answerBurn_split {sl : SiteLink} {b : BurnReq} {done wait : List AbortWait} (burn : sl.burn = some b)
    (aborts : sl.aborts = done ++ wait) (free : ∀ a ∈ done, a.waitsCmd = false)
    (waits : ∀ a, wait.head? = some a → a.waitsCmd = true) (code : Word) (ws : List Word) :
    sl.answerBurn code ws = { sl with
      burn := none
      aborts := wait.map fun a => { a with waitsBurn := false }
      io := { sl.io with
        replies := sl.io.replies ++ [⟨0x03, b.tag, code :: ws⟩] ++ done.map fun a => ⟨0x04, a.tag, [0]⟩ } } := by
  unfold SiteLink.answerBurn
  rw [burn]
  dsimp only
  rw [SiteLink.settleAborts_split (done := done.map fun a => { a with waitsBurn := false })
    (wait := wait.map fun a => { a with waitsBurn := false }) (by rw [aborts, List.map_append])]
  · simp only [List.map_map]
    rfl
  · intro a ha
    obtain ⟨a', mem, rfl⟩ := List.mem_map.mp ha
    simp [AbortWait.ready, free a' mem]
  · intro a ha
    rw [List.head?_map, Option.map_eq_some_iff] at ha
    obtain ⟨a', mem, rfl⟩ := ha
    simp [AbortWait.ready, waits a' mem]

/-! ### The commands that take the accesses -/

section

variable {k : Site} {rest : List PortEntry} {m : Nat} {w : EndWrite} {r : DieRecord} {s : State}

theorem exec_burnEndingWrite (powered : s.powered = true)
    (front : s.port = { access := .ending, site := k, moment := m } :: rest) :
    exec (.burnEndingWrite k) s = .next ((s.withPort rest).takeEnding k) := by
  refine congrArg _ ((State.live_powered powered _).trans ?_)
  rw [State.takeEndingWrite, State.takeAccess_front (b := true) front rfl rfl]

theorem exec_adoptionAccess (powered : s.powered = true)
    (front : s.port = { access := .adoption, site := k, moment := m } :: rest) :
    exec (.adoptionAccess k) s = .next ((s.withPort rest).takeAdoption k) := by
  refine congrArg _ ((State.live_powered powered _).trans ?_)
  rw [State.takeAdoptionAccess, State.takeAccess_front (b := true) front rfl rfl]

theorem exec_adoptionSerialLookup (powered : s.powered = true)
    (front : s.port = { access := .serialLookup, site := k, moment := m } :: rest) :
    exec (.adoptionSerialLookup k) s = .next ((s.withPort rest).answerLookup k) := by
  refine congrArg _ ((State.live_powered powered _).trans ?_)
  rw [State.takeSerialLookup, State.takeAccess_front (b := true) front rfl rfl]

/-- What the BURN's answer after an ending write or adoption changes (R118 step 5, R119). -/
theorem State.answerEnded_parts (k : Site) (w : EndWrite) (e : Ending) (serial : Serial) (r r' : DieRecord) (s : State) :
    (s.answerEnded k w e serial r r').chan k = { s.chan k with endWrite := none, ending := some e } ∧
    (s.answerEnded k w e serial r r').site k = (s.site k).answerBurn e.word
      ((s.chan k).replyWords w.taking serial r' r'.state (r'.exhausted && !r.exhausted) 0) ∧
    (∀ j, j ≠ k → (s.answerEnded k w e serial r r').chan j = s.chan j ∧
      (s.answerEnded k w e serial r r').site j = s.site j) ∧
    { s.answerEnded k w e serial r r' with chans := s.chans, sites := s.sites } = s :=
  ⟨State.modChan_chan k (fun c => { c with endWrite := none, ending := some e }) s, State.modSite_site ..,
    fun _ hj => ⟨State.modChan_chan_ne (k := k) (fun c => { c with endWrite := none, ending := some e }) s hj,
      State.answerBurn_other hj ..⟩, rfl⟩

/-- An ending write changes its record and answers the BURN (R57). -/
theorem State.takeEnding_eq (write : (s.chan k).endWrite = some w)
    (record : s.drt.records[w.taking.idx]? = some r) :
    s.takeEnding k = (s.withDrt (s.drt.modify w.taking.idx
      (DieRecord.ended w.ending w.lockRead s.lc.clock))).answerEnded k w w.ending w.taking.serial r
        (r.ended w.ending w.lockRead s.lc.clock) := by
  unfold State.takeEnding
  rw [write]
  dsimp only
  rw [State.recordAt, record]
  rfl

end

theorem Ending.recState_ne_burning (e : Ending) (l : Bool) : e.recState l ≠ .burning := by
  cases e <;> cases l <;> decide

/-- Settles O29. -/
theorem endingWriteEndsTheRecord : Obligations.EndingWriteEndsTheRecord := by
  intro k b w e st r rest m done wait s powered front write ending record burning fresh burn aborts free waits pair
  subst ending
  have state : w.ending.recState w.lockRead = st := by
    simp only [List.mem_cons, Prod.mk.injEq, List.not_mem_nil, or_false] at pair
    rcases pair with ⟨h, rfl⟩ | ⟨h, rfl⟩ | ⟨h, rfl⟩ | ⟨h, rfl⟩ | ⟨h, rfl⟩ | ⟨h, rfl⟩ | ⟨h, rfl⟩ | ⟨h, rfl⟩ | ⟨h, rfl⟩ |
      ⟨h, rfl⟩ | ⟨h, rfl⟩ | ⟨h, rfl⟩ <;> rw [h] <;> rfl
  have left : RecState.burning ≠ st := fun h => w.ending.recState_ne_burning w.lockRead (state.trans h.symm)
  have written : r.ended w.ending w.lockRead s.lc.clock = { r with
      state := st
      lastOutcome := some (.ended w.ending)
      holder := none
      stamp := s.lc.clock
      exhausted := (st == .failed || st == .interrupted) && r.attempts == 3 } := by
    rw [DieRecord.ended, state, fresh]
    rfl
  refine ⟨_, _, exec_burnEndingWrite powered front, rfl, ?_⟩
  rw [State.takeEnding_eq (by exact write) (by exact record), ← written]
  obtain ⟨chan, site, others, frame⟩ := State.answerEnded_parts k w w.ending w.taking.serial r
    (r.ended w.ending w.lockRead s.lc.clock) ((s.withPort rest).withDrt (s.drt.modify w.taking.idx
      (DieRecord.ended w.ending w.lockRead s.lc.clock)))
  have drt := (congrArg State.drt frame).trans (Table.modify_some record _)
  have counts (st' : RecState) := Counters.change_get s.drt.counts r (r.ended w.ending w.lockRead s.lc.clock) st'
  have marked := Counters.change_exhausted s.drt.counts r (r.ended w.ending w.lockRead s.lc.clock)
  have moved : (r.ended w.ending w.lockRead s.lc.clock).state = st := state
  refine ⟨congrArg Table.records drt, congrArg Table.marks drt, (congrArg Table.posMap drt :),
    (congrArg (fun d => d.counts.get .burning) drt).trans ?_, (congrArg (fun d => d.counts.get st) drt).trans ?_,
    (congrArg (fun d => d.counts.exhausted) drt).trans ?_, chan, site.trans ?_, others, (congrArg State.port frame :), ?_⟩
  · exact (counts .burning).trans (by rw [burning, moved, if_neg left, if_neg left, if_pos rfl]; rfl)
  · exact (counts st).trans (by rw [burning, moved, if_neg left, if_pos rfl])
  · exact marked.trans (by rw [fresh, Bool.not_false, Bool.and_true])
  · refine (SiteLink.answerBurn_split (by exact burn) (by exact aborts) free waits ..).trans ?_
    rw [moved, fresh, Bool.not_false, Bool.and_true]
    rfl
  · exact congrArg (fun t : State => { t with drt := s.drt, port := s.port }) frame

/-! ### Adoption (R58, R112, R113) -/

/-- A serial is held by a record other than the one at index `i`. -/
theorem Table.serialHeld_iff {d : Table} {i : Nat} {n : Serial} :
    d.serialHeld i n = true ↔ ∃ j r, d.records[j]? = some r ∧ j ≠ i ∧ r.serial = some n := by
  simp only [Table.serialHeld, List.any_eq_true, Bool.and_eq_true, bne_iff_ne, beq_iff_eq]
  constructor
  · rintro ⟨⟨r, j⟩, mem, other, serial⟩
    exact ⟨j, r, List.mem_zipIdx_iff_getElem?.mp mem, other, serial⟩
  · rintro ⟨j, r, record, other, serial⟩
    exact ⟨(r, j), List.mem_zipIdx_iff_getElem?.mpr record, other, serial⟩

section

variable {k : Site} {l : SlotId} {i : Image} {x : Taking} {w : EndWrite} {r : DieRecord} {s : State}

theorem State.answerLookup_eq (image : (s.chan k).readImage = some i) (burning : (s.chan k).burning = some l)
    (taking : ((s.chan k).slot l).taking = some x) :
    s.answerLookup k =
      if s.drt.serialHeld x.idx (readSerialOf i) then s.finishBurn k .foreignDie false
      else (s.withChans (s.chans.set k { s.chan k with state := .adoptWait, lookupWait := false })).withDu
        (s.placedEntry (.adopt k (readSerialOf i) (readPos i) s.lc.header.lotTag)) := by
  unfold State.answerLookup
  rw [image, Channel.burningTaking_eq burning taking]
  dsimp only
  rw [State.lookupAnswered, State.duPlace_eq]
  rfl

/-- With the read serial held the adoption access makes the record FOREIGN (R58). -/
theorem State.takeAdoption_held (write : (s.chan k).endWrite = some w) (record : s.drt.records[w.taking.idx]? = some r)
    (held : s.drt.serialHeld w.taking.idx w.readSerial = true) :
    s.takeAdoption k = (s.withDrt (s.drt.modify w.taking.idx
      (DieRecord.ended .foreignDie w.lockRead s.lc.clock))).answerEnded k w .foreignDie w.taking.serial r
        (r.ended .foreignDie w.lockRead s.lc.clock) := by
  unfold State.takeAdoption
  rw [write]
  dsimp only
  rw [State.recordAt, record]
  exact if_pos held

/-- Else it adopts the read serial: the record, the skipped serial and the serial watches (R58, R87). -/
theorem State.takeAdoption_unheld (write : (s.chan k).endWrite = some w) (record : s.drt.records[w.taking.idx]? = some r)
    (unheld : s.drt.serialHeld w.taking.idx w.readSerial = false) :
    s.takeAdoption k = ((((s.withDrt (s.drt.modify w.taking.idx
      (DieRecord.adoptedAs w.readSerial w.lockRead s.lc.clock))).skipSerial.withWt
        (s.wt.map fun e => if e.content = .serial w.readSerial then e.hit else e)).withFu
          (if ∃ e, (s.wt.get e).content = .serial w.readSerial
            then { s.fu with flags := { s.fu.flags with watch := true } } else s.fu))).answerEnded k w .adopted w.readSerial r
        (r.adoptedAs w.readSerial w.lockRead s.lc.clock) := by
  have watched (t : State) := State.watchHits_eq (WatchContent.atSerial w.readSerial) t
  simp only [WatchContent.atSerial_iff] at watched
  unfold State.takeAdoption
  rw [write]
  dsimp only
  rw [State.recordAt, record]
  dsimp only
  rw [unheld, if_neg Bool.false_ne_true, watched]
  rfl

end

theorem Counters.change_skipped (c : Counters) (r r' : DieRecord) : (c.change r r').skipped = c.skipped := by
  unfold Counters.change
  dsimp only
  split
  · rfl
  · rw [Counters.raise, Counters.put_skipped, Counters.lower, Counters.put_skipped]

/-- An adopted record keeps its exhausted mark clear (R58). -/
theorem DieRecord.adoptedAs_eq {r : DieRecord} {n : Serial} {lock : Bool} {stamp : BitVec 32}
    (fresh : r.exhausted = false) : r.adoptedAs n lock stamp = { r with
      state := if lock then .locked else .verified
      serial := some n
      recovered := true
      lastOutcome := some (.ended .adopted)
      holder := none
      stamp := stamp } := by
  cases r
  cases fresh
  cases lock <;> rfl

theorem DieRecord.foreign_eq {r : DieRecord} {lock : Bool} {stamp : BitVec 32} (fresh : r.exhausted = false) :
    r.ended .foreignDie lock stamp = { r with
      state := .foreign
      lastOutcome := some (.ended .foreignDie)
      holder := none
      stamp := stamp } := by
  cases r
  cases fresh
  rfl

/-- Settles O30: the serial lookup, then the adoption access, by who holds the serial read. -/
theorem adoptionDecidesTheDie : Obligations.AdoptionDecidesTheDie := by
  refine ⟨fun k l i x rest m s powered front state image burning taking => ⟨fun unheld => ?waits, fun held => ?foreign⟩,
    fun k w r rest m s powered front write record burning fresh unrecovered first =>
      ⟨fun unheld => ?adopted, fun held => ?denied⟩⟩
  case waits =>
    refine ⟨_, exec_adoptionSerialLookup powered front, ?_⟩
    rw [State.answerLookup_eq (by exact image) (by exact burning) (by exact taking), if_neg (by simpa using unheld)]
    exact ⟨Four.get_set_same .., rfl, rfl, fun j hj => Four.get_set_ne _ _ hj, rfl⟩
  case foreign =>
    refine ⟨_, exec_adoptionSerialLookup powered front, ?_⟩
    rw [State.answerLookup_eq (by exact image) (by exact burning) (by exact taking), if_pos (by exact held)]
    obtain ⟨t, eq, ended, ⟨port, du⟩, fu, others, frame⟩ := State.finishBurn_written_same (k := k) (e := .foreignDie)
      (halt := false) (s.withPort rest) (c := s.chan k) burning taking (by rw [state]; rfl)
    have self : (s.withPort rest).withChans ((s.withPort rest).chans.set k (s.chan k)) = s.withPort rest :=
      State.withChans_self k (s.withPort rest)
    rw [self] at eq
    rw [eq]
    have gone : s.port.filter (fun e => !(e.site == k && e.access == .serialLookup)) =
        rest.filter fun e => !(e.site == k && e.access == .serialLookup) := by
      rw [front]
      exact List.filter_cons_of_neg (by simp)
    refine ⟨ended, ⟨port.trans (by rw [gone]; rfl), du⟩, others, ?_⟩
    have calm : t.fu = s.fu := fu.trans (State.reportEnding_fu (.inl rfl) ..)
    calc ({ t with chans := s.chans, du := s.du, port := s.port } : State)
        = { { t with chans := s.chans, port := rest, fu := s.fu, du := s.du } with fu := t.fu, port := s.port } := rfl
      _ = { s.withPort rest with fu := t.fu, port := s.port } := congrArg
          (fun u : State => { u with fu := t.fu, port := s.port }) frame
      _ = s := by rw [calm]; rfl
  case adopted =>
    have free : s.drt.serialHeld w.taking.idx w.readSerial = false := by
      rw [← Bool.not_eq_true, Table.serialHeld_iff]
      rintro ⟨j, r₂, here, other, serial⟩
      exact unheld j r₂ here other serial
    refine ⟨_, exec_adoptionAccess powered front, ?_⟩
    rw [State.takeAdoption_unheld (by exact write) (by exact record) (by exact free), ← DieRecord.adoptedAs_eq fresh]
    obtain ⟨chan, site, others, frame⟩ := State.answerEnded_parts k w .adopted w.readSerial r
      (r.adoptedAs w.readSerial w.lockRead s.lc.clock) ((((s.withPort rest).withDrt (s.drt.modify w.taking.idx
        (DieRecord.adoptedAs w.readSerial w.lockRead s.lc.clock))).skipSerial.withWt
          (s.wt.map fun e : WatchEntry => if e.content = .serial w.readSerial then e.hit else e)).withFu
            (if ∃ e, (s.wt.get e).content = .serial w.readSerial
              then { s.fu with flags := { s.fu.flags with watch := true } } else s.fu))
    have drt := (congrArg State.drt frame).trans
      (congrArg (fun d : Table => { d with counts := { d.counts with skipped := d.counts.skipped + 1 } })
        (Table.modify_some record (DieRecord.adoptedAs w.readSerial w.lockRead s.lc.clock)))
    refine ⟨(congrArg Table.records drt :), (congrArg (fun d => d.counts.skipped) drt).trans ?_,
      (congrArg (fun d => d.counts.recovered) drt).trans ?_, chan, fun b burn alone => site.trans ?_, fun e => ?_,
      (congrArg State.fu frame :), (congrArg State.port frame :), others, ?_⟩
    · exact congrArg (· + 1) (Counters.change_skipped ..)
    · refine (Counters.change_recovered ..).trans ?_
      rw [unrecovered]
      rfl
    · rw [DieRecord.adoptedAs_eq fresh]
      refine (SiteLink.answerBurn_alone (by exact burn) (by exact alone) ..).trans ?_
      rw [Channel.replyWords, first, fresh]
      cases w.lockRead <;> rfl
    · exact (congrArg (fun t : State => t.wt.get e) frame).trans (Four.get_map _ _ e)
    · exact congrArg (fun t : State => { t with drt := s.drt, port := s.port, wt := s.wt, fu := s.fu }) frame
  case denied =>
    refine ⟨_, exec_adoptionAccess powered front, ?_⟩
    rw [State.takeAdoption_held (by exact write) (by exact record) (by exact Table.serialHeld_iff.mpr held),
      ← DieRecord.foreign_eq fresh]
    obtain ⟨chan, site, others, frame⟩ := State.answerEnded_parts k w .foreignDie w.taking.serial r
      (r.ended .foreignDie w.lockRead s.lc.clock) ((s.withPort rest).withDrt (s.drt.modify w.taking.idx
        (DieRecord.ended .foreignDie w.lockRead s.lc.clock)))
    have drt := (congrArg State.drt frame).trans (Table.modify_some record _)
    refine ⟨congrArg Table.records drt, (congrArg (fun d => d.counts.skipped) drt).trans (Counters.change_skipped ..),
      (congrArg State.port frame :), chan, fun b burn alone => site.trans ?_, others, ?_⟩
    · rw [DieRecord.foreign_eq fresh]
      refine (SiteLink.answerBurn_alone (by exact burn) (by exact alone) ..).trans ?_
      rw [Channel.replyWords, first, fresh]
      rfl
    · exact congrArg (fun t : State => { t with drt := s.drt, port := s.port }) frame

end Sys2Proof.Machine
end

section
/-!
PROOFS. The completion of a derivation (O39) and of a calibration (O38).
-/

namespace Sys2Proof.Machine

/-! ### A derivation completes (O39) -/

section

variable {k : Site} {l : SlotId} {n : Serial} {p : Pos} {tag : Word} {secret : Key} {s : State}

theorem exec_derivationComplete (powered : s.powered = true) : exec .derivationComplete s = .next s.derived :=
  congrArg _ (State.live_powered powered _)

/-- On a unit that has become free the next entry is chosen from the queue it has then (R93). -/
theorem State.duStart_freed {t : State} {q : List DEntry} (du : t.du = { s.du with queue := q, current := none })
    (lc : t.lc = s.lc) : t.duStart = t.withDu (s.nextDerivation q) := by
  rw [State.duStart_idle (by rw [du]), State.nextDerivation, State.nextDerivation, du, lc]

/-- The state whose derivation unit has just become free. -/
def State.freed (s : State) : State := s.withDu { s.du with current := none }

/-- What follows the completion of the derivation in progress: its delivery, and the next choice (R93, R94). -/
theorem State.derived_eq {d : Derivation} {t : State} {q : List DEntry} (current : s.du.current = some d)
    (delivered : s.freed.deliver d = t) (du : t.du = { s.du with queue := q, current := none }) (lc : t.lc = s.lc) :
    s.derived = t.withDu (s.nextDerivation q) := by
  rw [State.derived, current]
  exact (congrArg State.duStart delivered).trans (State.duStart_freed du lc)

theorem State.deliver_plain : s.deliver { entry := .slot k l n p tag, secret := secret, discard := false } =
    s.deliverSlot k l n p tag (Config.derivation secret tag n p.col p.row) := rfl

/-- A derivation delivered to its slot stages it (R82). -/
theorem State.deliver_slot (state : ((s.chan k).slot l).state = .deriving)
    (calm : ¬((s.chan k).state = .waiting ∧ (s.chan k).burning = some l)) :
    s.deliver { entry := .slot k l n p tag, secret := secret, discard := false } = s.modChan k fun c => c.setSlot l
      ((c.slot l).staged (assembleImage n tag p s.lc.header.options (Config.derivation secret tag n p.col p.row))) := by
  rw [State.deliver_plain, State.deliverSlot, if_pos state, if_neg calm]

/-- A channel WAITING for the slot begins qualification with it (R83, R105). -/
theorem State.deliver_waiting (state : ((s.chan k).slot l).state = .deriving) (waiting : (s.chan k).state = .waiting)
    (burning : (s.chan k).burning = some l) :
    s.deliver { entry := .slot k l n p tag, secret := secret, discard := false } =
      (s.modChan k fun c => c.setSlot l ((c.slot l).staged
        (assembleImage n tag p s.lc.header.options (Config.derivation secret tag n p.col p.row)))).startQualify k l := by
  rw [State.deliver_plain, State.deliverSlot, if_pos state, if_pos ⟨waiting, burning⟩]

/-- An adoption derivation ends the burn by its key (R113). -/
theorem State.deliver_adopt {i : Image} (state : (s.chan k).state = .adoptWait) (image : (s.chan k).readImage = some i) :
    s.deliver { entry := .adopt k n p tag, secret := secret, discard := false } = s.finishBurn k
      (if Config.derivation secret tag n p.col p.row = readKey i then .adopted else .foreignDie) false := by
  have plain : s.deliver { entry := .adopt k n p tag, secret := secret, discard := false } =
      s.deliverAdopt k (Config.derivation secret tag n p.col p.row) := rfl
  rw [plain]
  unfold State.deliverAdopt
  dsimp only
  split
  · next r _ h =>
    cases image.symm.trans h
    rfl
  · next h => exact absurd image (h i state)

end

/-- Settles O39: each completion is its delivery on the freed unit, with the next choice after it. -/
theorem derivationsAreDelivered : Obligations.DerivationsAreDelivered := by
  refine ⟨fun k l n p tag secret image s powered current state assembled => ?slot,
    fun k l n p tag secret s powered => ⟨fun current => ?discarded,
      fun i x current state image burning taking => ?adopt⟩⟩
  case slot =>
    subst assembled
    rw [exec_derivationComplete powered]
    by_cases waiting : (s.chan k).state = .waiting ∧ (s.chan k).burning = some l
    · rw [State.derived_eq (q := s.du.queue) current
        (State.deliver_waiting (by exact state) (by exact waiting.1) (by exact waiting.2)) rfl rfl]
      refine ⟨_, rfl, rfl, fun calm => absurd waiting calm, fun _ _ => ?_, fun j hj => ?_, rfl⟩
      · rw [State.chan_withDu, State.startQualify, State.modChan_chan, State.modChan_chan]
        cases l <;> rfl
      · rw [State.chan_withDu, State.startQualify, State.modChan_chan_ne _ _ hj, State.modChan_chan_ne _ _ hj]
        rfl
    · rw [State.derived_eq (q := s.du.queue) current (State.deliver_slot (by exact state) (by exact waiting)) rfl rfl]
      exact ⟨_, rfl, rfl, fun _ => Four.get_set_same .., fun state burning => absurd ⟨state, burning⟩ waiting,
        fun j hj => Four.get_set_ne _ _ hj, rfl⟩
  case discarded =>
    rw [exec_derivationComplete powered, State.derived_eq (q := s.du.queue)
      (t := s.freed.modChan k fun c => c.setSlot l (c.slot l).discarded) current rfl rfl rfl]
    exact ⟨_, rfl, rfl, Four.get_set_same .., fun j hj => Four.get_set_ne _ _ hj, rfl⟩
  case adopt =>
    rw [exec_derivationComplete powered]
    obtain ⟨t, eq, ended, ⟨port, du⟩, fu, others, frame⟩ := State.finishBurn_written_same (k := k)
      (e := if Config.derivation secret tag n p.col p.row = readKey i then .adopted else .foreignDie)
      (halt := false) s.freed (c := s.chan k) burning taking (by rw [state]; rfl)
    have self : s.freed.withChans (s.freed.chans.set k (s.chan k)) = s.freed := State.withChans_self k s.freed
    rw [self] at eq
    rw [State.derived_eq current ((State.deliver_adopt (by exact state) (by exact image)).trans eq) du
      (congrArg State.lc frame :)]
    refine ⟨_, rfl, ended, port.trans ?_, rfl, others, ?_⟩
    · by_cases same : Config.derivation secret tag n p.col p.row = readKey i
      · rw [if_pos same, if_pos rfl, if_pos same]; rfl
      · rw [if_neg same, if_neg Ending.noConfusion, if_neg same]; rfl
    · have calm : t.fu = s.fu := by
        refine fu.trans ((State.reportEnding_fu (.inl rfl) ..).trans ?_)
        by_cases same : Config.derivation secret tag n p.col p.row = readKey i
        · rw [if_pos same]; rfl
        · rw [if_neg same]; rfl
      exact (congrArg (fun u : State => { u with fu := t.fu, du := s.du, port := s.port }) frame).trans (by rw [calm])

/-! ### A LOAD WAFER in progress (R15) -/

theorem Four.all_toList {α : Type} {f : Four α} {p : α → Bool} : f.toList.all p = true ↔ ∀ k, p (f.get k) = true := by
  rw [← not_iff_not, Bool.not_eq_true, ← Bool.not_eq_true', List.not_all_eq_any_not, Four.any_toList]
  simp

/-- Nothing is awaited any more (R15). -/
theorem LoadCtx.complete_iff {ctx : LoadCtx} :
    ctx.complete = true ↔ ctx.journalDone = true ∧ ∀ j, ctx.cal.get j ≠ .awaited := by
  rw [LoadCtx.complete, Bool.and_eq_true, Four.all_toList]
  simp

section

variable {k : Site} {ctx : LoadCtx} {r : CalResult} {q : SupReqState} {b : BurnReq} {s : State}

theorem State.loadCheck_none (load : s.lc.load = none) : s.loadCheck = s := by
  rw [State.loadCheck, load]

/-- A LOAD WAFER that awaits something more goes on waiting. -/
theorem State.loadCheck_awaits (load : s.lc.load = some ctx)
    (awaits : ctx.journalDone = false ∨ ∃ j, ctx.cal.get j = .awaited) : s.loadCheck = s := by
  have incomplete : ctx.complete = false := by
    rw [← Bool.not_eq_true, LoadCtx.complete_iff]
    rintro ⟨done, ended⟩
    rcases awaits with waits | ⟨j, awaited⟩
    · simp [done] at waits
    · exact ended j awaited
  rw [State.loadCheck, load]
  exact if_neg (by simp [incomplete])

/-- A LOAD WAFER that awaits nothing more makes the wafer ACTIVE and is answered (R15). -/
theorem State.loadCheck_complete (load : s.lc.load = some ctx) (done : ctx.journalDone = true)
    (ended : ∀ j, ctx.cal.get j ≠ .awaited) (lane : s.sup.lane = some q) (reset : s.resetWaiting = false) :
    s.loadCheck = { s with
      lc := { s.lc with wafer := .active, load := none }
      sup := { lane := none, io := { s.sup.io with replies := s.sup.io.replies ++
        [⟨q.kind, q.tag, [0, wordOf s.lc.waferNumber, if ctx.reload then 1 else 0,
          wordOf (ctx.cal.get 0).code, signedWord (s.chan 0).offset,
          wordOf (ctx.cal.get 1).code, signedWord (s.chan 1).offset,
          wordOf (ctx.cal.get 2).code, signedWord (s.chan 2).offset,
          wordOf (ctx.cal.get 3).code, signedWord (s.chan 3).offset]⟩] } } } := by
  rw [State.loadCheck, load]
  refine (if_pos ?_).trans ?_
  · rw [LoadCtx.complete_iff.mpr ⟨done, ended⟩, reset]
    rfl
  · rw [State.supAnswer, State.withLc_sup, SupLink.answer, lane]
    rfl

/-! ### A calibration ends (O38) -/

/-- With no CALIBRATE of the channel on the lane none is answered (R132). -/
theorem State.answerCalibrate_other (other : ∀ q, s.sup.lane = some q → q.task ≠ .calibrate k) :
    s.answerCalibrate k = s := by
  unfold State.answerCalibrate
  split
  · next q _ _ lane _ _ => exact if_neg (other q lane)
  · rfl

/-- The CALIBRATE that waits for the channel is answered with its result (R132). -/
theorem State.answerCalibrate_waits {rd : CalReadings} (lane : s.sup.lane = some q) (task : q.task = .calibrate k)
    (result : (s.chan k).calResult = some r) (readings : (s.chan k).calReadings = some rd) :
    s.answerCalibrate k = s.withSup { lane := none, io := { s.sup.io with replies := s.sup.io.replies ++
      [⟨q.kind, q.tag, 0 :: calibrateWords r (s.chan k) rd⟩] } } := by
  rw [State.answerCalibrate, lane, result, readings]
  refine (if_pos task).trans ?_
  rw [State.supAnswer, SupLink.answer, lane]
  rfl

theorem State.loadRan_none (load : s.lc.load = none) : s.loadRan k r = s := by
  have same : s.withLc { s.lc with load := none } = s := by
    rw [← load]
    rfl
  rw [State.loadRan, load, Option.map_none, same, State.loadCheck_none load]

theorem State.loadRan_awaited (load : s.lc.load = some ctx) (awaited : ctx.cal.get k = .awaited) :
    s.loadRan k r =
      (s.withLc { s.lc with load := some { ctx with cal := ctx.cal.set k (.ran r) } }).loadCheck := by
  rw [State.loadRan, load, Option.map_some, if_pos awaited]

/-- No BURN waits on the calibration: none is checked again. -/
theorem State.recheckBurn_none (calm : ∀ b, (s.site k).burn = some b → b.waitsCal = false) : s.recheckBurn k = s := by
  unfold State.recheckBurn
  split
  · rfl
  · next b burn => exact if_neg (by simp [calm b burn])

/-- A lane that takes a BURN keeps nothing of the one before. -/
theorem State.withBurn_cleared (k : Site) (b : BurnReq) (s : State) :
    (s.withSites (s.sites.set k { s.site k with burn := none })).withBurn k b = s.withBurn k b := by
  simp only [State.withBurn, State.modSite_eq, State.withSites_sites, State.site_withSites, Four.get_set_same,
    Four.set_set, State.withSites_withSites]

/-- A BURN that waits is checked again as one that has just arrived (R103). -/
theorem State.recheckBurn_waits (burn : (s.site k).burn = some b) (waits : b.waitsCal = true) :
    s.recheckBurn k = (s.withBurn k ⟨b.tag, b.pos, false⟩).burnAttempt k b.pos := by
  rw [State.recheckBurn, burn]
  exact if_pos waits

theorem exec_calibrationMeasurement (powered : s.powered = true) (e : BitVec 10) :
    exec (.calibrationMeasurement k e) s = .next (s.calMeasured k e) := congrArg _ (State.live_powered powered _)

theorem State.calMeasured_eq {codes : List (BitVec 10)} {kind : Byte} (state : (s.chan k).state = .calibrating)
    (run : (s.chan k).calRun = some { codes := codes, kind := kind }) (e : BitVec 10) :
    s.calMeasured k e =
      if codes.length < 3 then
        s.withChans (s.chans.set k { s.chan k with calRun := some { codes := codes ++ [e], kind := kind } })
      else s.endCalibration k kind (codes ++ [e]) := by
  unfold State.calMeasured
  dsimp only
  split
  · next run' _ h =>
    cases run.symm.trans h
    rw [List.length_append, List.length_singleton]
    exact if_congr Nat.succ_lt_succ_iff rfl rfl
  · next h => exact absurd run (h _ state)

end

/-- The size of a deviation decides result, offset and degraded flag (R131). -/
theorem calResultOf_cases {d off old : Int} {r : CalResult} {deg flag : Bool}
    (size : (-7 ≤ d ∧ d ≤ 7 ∧ r = .calibrated ∧ off = d ∧ deg = false) ∨
      (7 < d ∧ d ≤ 48 ∧ r = .limited ∧ off = 7 ∧ deg = true) ∨
      (-48 ≤ d ∧ d < -7 ∧ r = .limited ∧ off = -7 ∧ deg = true) ∨
      ((48 < d ∨ d < -48) ∧ r = .failed ∧ off = old ∧ deg = flag)) :
    calResultOf d = r ∧ calOffset d old = off ∧ calDegraded d flag = deg := by
  have result : calResultOf d = r := by
    unfold calResultOf
    rcases size with ⟨low, high, rfl, -, -⟩ | ⟨low, high, rfl, -, -⟩ | ⟨low, high, rfl, -, -⟩ | ⟨out, rfl, -, -⟩
    · rw [if_pos (by omega)]
    · rw [if_neg (by omega), if_pos (by omega)]
    · rw [if_neg (by omega), if_pos (by omega)]
    · rw [if_neg (by omega), if_neg (by omega)]
  rw [calOffset, calDegraded, result]
  refine ⟨rfl, ?_⟩
  rcases size with ⟨low, high, rfl, rfl, rfl⟩ | ⟨low, high, rfl, rfl, rfl⟩ | ⟨low, high, rfl, rfl, rfl⟩ |
    ⟨out, rfl, rfl, rfl⟩
  · exact ⟨rfl, rfl⟩
  · exact ⟨if_pos (by omega), rfl⟩
  · exact ⟨if_neg (by omega), rfl⟩
  · exact ⟨rfl, rfl⟩

/-- The part once the fourth reference code has set the channel and reported its fault (R131). -/
def State.calibrated (k : Site) (kind : Byte) (codes : List (BitVec 10)) (s : State) : State :=
  let s1 := s.modChan k (Channel.calibrated codes)
  match (calResultOf (calDeviation codes)).fault with
  | some n => s1.report n (some k) none kind
  | none => s1

theorem State.endCalibration_eq (k : Site) (kind : Byte) (codes : List (BitVec 10)) (s : State) :
    s.endCalibration k kind codes =
      (((s.calibrated k kind codes).answerCalibrate k).loadRan k (calResultOf (calDeviation codes))).recheckBurn k := rfl

/-- Settles O38: the state the fourth code leaves, then the CALIBRATE, the LOAD WAFER and the BURN that wait. -/
theorem calibrationSetsTheOffset : Obligations.CalibrationSetsTheOffset := by
  intro k kind codes e s powered state run
  rw [exec_calibrationMeasurement powered, State.calMeasured_eq state run]
  refine ⟨fun more => ?more, fun a b c A d off deg r u whole average deviation size after => ?whole⟩
  case more => exact congrArg _ (if_pos more)
  case whole =>
    subst whole
    rw [if_neg (by simp), State.endCalibration_eq]
    have avg : calAverage ([a, b, c] ++ [e]) = A := by
      simp [calAverage, average]
      omega
    have dev : calDeviation ([a, b, c] ++ [e]) = d := by rw [calDeviation, avg, deviation]
    obtain ⟨result, offset, degraded⟩ := calResultOf_cases size
    have chan : (s.chan k).calibrated ([a, b, c] ++ [e]) = { s.chan k with
        state := if r = .failed then .halted else .idle
        offset := off
        degraded := deg
        calResult := some r
        calReadings := some { codes := [a, b, c, e], average := A, deviation := d }
        calRun := none } := by
      rw [Channel.calibrated]
      simp only [dev, avg, result, offset, degraded]
      rfl
    have there : s.calibrated k kind ([a, b, c] ++ [e]) = u := by
      rw [after, State.calibrated, State.modChan_eq, chan, dev, result]
      cases r <;> rfl
    have sup : u.sup = s.sup := by rw [after]
    have lc : u.lc = s.lc := by rw [after]
    have sites : u.sites = s.sites := by rw [after]
    have reset : u.resetWaiting = s.resetWaiting := by rw [after]
    have chank : u.chan k = _ := (congrArg (State.chan · k) after).trans (Four.get_set_same ..)
    have calm {t : State} (same : t.sites = s.sites) (free : ∀ b, (s.site k).burn = some b → b.waitsCal = false) :
        t.recheckBurn k = t := State.recheckBurn_none fun b burn => free b (by rw [← burn, State.site, State.site, same])
    rw [there, dev, result]
    refine ⟨fun other free => ⟨fun load => ?alone, fun ctx cal load awaited unreset noted =>
      ⟨fun awaits => ?awaits, fun q done ended lane => ?done⟩⟩, fun su load waits other => ?waits⟩
    case alone =>
      rw [State.answerCalibrate_other (by rw [sup]; exact other), State.loadRan_none (by rw [lc]; exact load),
        calm sites free]
    case awaits =>
      subst noted
      rw [State.answerCalibrate_other (by rw [sup]; exact other),
        State.loadRan_awaited (by rw [lc]; exact load) awaited, State.loadCheck_awaits rfl awaits,
        calm (by exact sites) free, lc]
      rfl
    case done =>
      subst noted
      have loaded := State.loadCheck_complete (ctx := { ctx with cal := ctx.cal.set k (.ran r) })
        (s := u.withLc { u.lc with load := some { ctx with cal := ctx.cal.set k (.ran r) } }) (q := q) rfl done ended
        ((congrArg SupLink.lane sup).trans lane) (reset.trans unreset)
      rw [State.answerCalibrate_other (by rw [sup]; exact other),
        State.loadRan_awaited (by rw [lc]; exact load) awaited, loaded, calm (by exact sites) free]
      simp only [State.withLc_lc, State.withLc_sup, lc, sup]
      rfl
    case waits =>
      have answered : u.answerCalibrate k = u.withSup su := by
        by_cases waiting : ∃ q, s.sup.lane = some q ∧ q.task = .calibrate k
        · obtain ⟨q, lane, task⟩ := waiting
          rw [State.answerCalibrate_waits (q := q) (by rw [sup]; exact lane) task (by rw [chank]) (by rw [chank]), chank,
            waits q lane task, sup]
          rfl
        · rw [State.answerCalibrate_other, other, ← sup]
          · rfl
          · exact fun q lane task => waiting ⟨q, lane, task⟩
          · rw [sup]
            exact fun q lane task => waiting ⟨q, lane, task⟩
      rw [answered, State.loadRan_none (by rw [State.withSup_lc, lc]; exact load)]
      refine ⟨fun free => congrArg _ (calm sites free), fun b v burn waitsCal made ready admits => ?_⟩
      have free : (v.site k).burn = none := by
        rw [made]
        exact congrArg SiteLink.burn (Four.get_set_same ..)
      rw [State.recheckBurn_waits (by rw [State.site_withSup, State.site, sites]; exact burn) waitsCal,
        exec_burn_free ready admits free]
      have lanes : (u.withSup su).withBurn k ⟨b.tag, b.pos, false⟩ = v.withBurn k ⟨b.tag, b.pos, false⟩ := by
        rw [made, ← sites, State.site, ← sites]
        exact (State.withBurn_cleared k ⟨b.tag, b.pos, false⟩ (u.withSup su)).symm
      rw [lanes]

end Sys2Proof.Machine
end

section
/-!
PROOFS. Opening, resuming and closing a lot (O40, O41, O42).
-/

namespace Sys2Proof.Machine

/-! ### Requests on a ready supervisor link -/

/-- An answer that follows nothing else is a plain reply. -/
theorem State.supRefused {s : State} (ready : s.SupReady) (kind tag : Byte) (code : Word) (ws : List Word) :
    (s.taken kind tag).supAnswer code ws = s.reply .supervisor ⟨kind, tag, code :: ws⟩ :=
  State.supAnswer_taken ready.free rfl code ws

/-- The answer of a request on the lane frees the lane. -/
theorem State.supAnswer_lane {q : SupReqState} {s : State} (lane : s.sup.lane = some q) (code : Word) (ws : List Word) :
    s.supAnswer code ws = s.withSup { lane := none, io := { s.sup.io with
      replies := s.sup.io.replies ++ [⟨q.kind, q.tag, code :: ws⟩] } } := by
  rw [State.supAnswer, SupLink.answer, lane]
  rfl

section

variable {s : State}

theorem exec_openLot (ready : s.SupReady) (tag : Byte) (lotTag : Word) (first count : BitVec 32) (options : Word)
    (secret : Key) : exec (.openLot tag lotTag first count options secret) s =
      .next (openLotAct lotTag first count options secret (s.taken 0x20 tag)) :=
  congrArg _ ((State.live_powered ready.powered _).trans (State.supRequest_ready ready ..))

theorem exec_resumeLot (ready : s.SupReady) (tag : Byte) (lotTag : Word) (secret : Key) :
    exec (.resumeLot tag lotTag secret) s = .next (resumeLotAct lotTag secret (s.taken 0x21 tag)) :=
  congrArg _ ((State.live_powered ready.powered _).trans (State.supRequest_ready ready ..))

theorem exec_closeLot (ready : s.SupReady) (tag : Byte) :
    exec (.closeLot tag) s = .next (closeLotAct (s.taken 0x22 tag)) :=
  congrArg _ ((State.live_powered ready.powered _).trans (State.supRequest_ready ready ..))

/-! ### The fingerprint derivation -/

/-- A fingerprint entry on an idle unit with nothing queued is chosen at once (R93). -/
theorem State.placedEntry_fingerprint (idle : s.du.current = none) (empty : s.du.queue = []) (lotTag : Word) :
    s.placedEntry (.fingerprint lotTag) = { s.du with current := some {
      entry := .fingerprint lotTag, secret := s.lc.secret.getD Config.absentSecret, discard := false } } := by
  have chosen : chooseEntry s.du.pointer [DEntry.fingerprint lotTag] = some (.fingerprint lotTag, [], s.du.pointer) :=
    rfl
  rw [State.placedEntry, if_pos idle, empty, List.nil_append, State.nextDerivation, chosen, ← empty]

theorem State.nextDerivation_nil : s.nextDerivation [] = { s.du with queue := [], current := none } := rfl

/-- The fingerprint's derivation completes with nothing queued behind it (R94). -/
theorem State.derived_fingerprint {lotTag : Word} {secret : Key} {t : State}
    (current : s.du.current = some { entry := .fingerprint lotTag, secret := secret, discard := false })
    (empty : s.du.queue = []) (delivered : s.freed.deliverFingerprint (Config.derivation secret lotTag 0 0 0) = t)
    (du : t.du = s.freed.du) : s.derived = t := by
  have start : t.duStart = t := by
    have queue : t.du.queue = [] := (congrArg DerivUnit.queue du).trans empty
    have nothing : t.nextDerivation t.du.queue = t.du := by
      rw [queue, State.nextDerivation_nil, ← queue, du]
      rfl
    rw [State.duStart_idle (by rw [du]; rfl), nothing]
    rfl
  rw [State.derived, current]
  exact (congrArg State.duStart delivered).trans start

end

/-- The header with the fingerprint a key gives (R5). -/
def LotHeader.fingerprinted (key : Key) (h : LotHeader) : LotHeader :=
  { h with fp1 := key.extractLsb' 240 16, fp2 := key.extractLsb' 224 16 }

/-- Under OPENING the fingerprint is stored and the ten word writes are placed (R5). -/
theorem State.deliverFingerprint_opening {key : Key} {s : State} (opening : s.lc.lotState = .opening) :
    s.deliverFingerprint key = (s.withLc { s.lc with header := s.lc.header.fingerprinted key }).withJs
      (Journal.begun s.sa.mark
        { s.js with queue := s.js.queue ++ headerWrites (s.lc.header.fingerprinted key) }) := by
  unfold State.deliverFingerprint
  dsimp only
  rw [opening]
  exact State.jsPlace_eq ..

/-- A journal store that may begin a write begins the front one (R145). -/
theorem Journal.begun_front {j : Journal} {e : JEntry} {rest : List JEntry} {mark : Nat} (queue : j.queue = e :: rest)
    (write : j.write = none) (held : j.held = false) (stopped : j.stopped = false) :
    j.begun mark = { j with
      queue := rest
      write := some { entry := e, value := e.value mark j.rideMirror, second := false, phase := .erase, elapsed := 0 } } := by
  rw [Journal.begun, queue]
  exact if_pos ⟨write, held, stopped⟩

/-- The options word OPEN LOT takes: format revision 1, bits 14 to 12 and 7 to 4 clear (R4 step 5). -/
theorem optionsValid_iff {w : Word} : optionsValid w = true ↔ w &&& 0x0F00 = 0x0100 ∧ w &&& 0x70F0 = 0 := by
  rw [optionsValid, beq_iff_eq]
  constructor
  · intro h
    have within (m : Word) (inside : 0x7FF0 &&& m = m) : w &&& m = 0x0100 &&& m := by
      rw [← h, BitVec.and_assoc, inside]
    exact ⟨within 0x0F00 rfl, within 0x70F0 rfl⟩
  · rintro ⟨high, low⟩
    have parts : w &&& 0x7FF0 = (w &&& 0x0F00) ||| (w &&& 0x70F0) := by
      rw [← BitVec.and_or_distrib_left]
      rfl
    rw [parts, high, low]
    rfl

theorem openLotValid_iff {lotTag : Word} {first count : BitVec 32} {options : Word} :
    openLotValid lotTag first count options = true ↔ lotTag ≠ 0 ∧ first ≠ 0 ∧ count ≠ 0 ∧ count.toNat ≤ 1048560 ∧
      first.toNat + count.toNat ≤ 4294967296 ∧ options &&& 0x0F00 = 0x0100 ∧ options &&& 0x70F0 = 0 := by
  have range : first.toNat + count.toNat - 1 ≤ 4294967295 ↔ first.toNat + count.toNat ≤ 4294967296 := by omega
  simp only [openLotValid, Bool.and_eq_true, bne_iff_ne, decide_eq_true_eq, optionsValid_iff, range, and_assoc]

/-- Settles O40: the checks of R4, the begin of R5, and the delivery of the fingerprint. -/
theorem openLotBegins : Obligations.OpenLotBegins := by
  refine ⟨fun tag lotTag first count options secret s ready => ⟨fun unempty unclosed => ?active, fun free =>
      ⟨fun bad => ?bad, fun h1 h2 h3 h4 h5 h6 h7 idle empty => ?begin⟩⟩,
    fun lotTag secret key s powered opening current empty derived queue write held stopped => ?delivered⟩
  case active =>
    rw [exec_openLot ready, openLotAct, if_pos ⟨by exact unempty, by exact unclosed⟩, State.supRefused ready]
    rfl
  case bad =>
    have invalid : openLotValid lotTag first count options = false := by
      rw [← Bool.not_eq_true, openLotValid_iff]
      rintro ⟨h1, h2, h3, h4, h5, h6, h7⟩
      rcases bad with h | h | h | h | h | h | h
      exacts [h1 h, h2 h, h3 h, absurd h4 (by omega), absurd h5 (by omega), h h6, h h7]
    rw [exec_openLot ready, openLotAct, if_neg (fun h => free.elim h.1 h.2), invalid, Bool.not_false, if_pos rfl,
      State.supRefused ready]
    rfl
  case begin =>
    have valid : openLotValid lotTag first count options = true :=
      openLotValid_iff.mpr ⟨h1, h2, h3, h4, h5, h6, h7⟩
    rw [exec_openLot ready, openLotAct, if_neg (fun h => free.elim h.1 h.2), valid, Bool.not_true,
      if_neg Bool.false_ne_true, State.beginOpen, State.duPlace_eq,
      State.placedEntry_fingerprint (by exact idle) (by exact empty)]
    rfl
  case delivered =>
    subst derived
    rw [exec_derivationComplete powered,
      State.derived_fingerprint current empty (State.deliverFingerprint_opening (by exact opening)) rfl]
    have front : (s.freed.js.queue ++ headerWrites (s.freed.lc.header.fingerprinted
        (Config.derivation secret lotTag 0 0 0))) = headerWrites (s.lc.header.fingerprinted
          (Config.derivation secret lotTag 0 0 0)) := by
      rw [show s.freed.js.queue = [] from queue]
      rfl
    rw [front, Journal.begun_front (j := { s.freed.js with queue := headerWrites _ }) rfl write held stopped]
    exact ⟨_, rfl, rfl, rfl, rfl, rfl, rfl, rfl, rfl, rfl, rfl, rfl⟩

/-! ### RESUME LOT (R7) -/

section

variable {key : Key} {s : State}

/-- Under RESUMING the stored fingerprint opens the lot (R7). -/
theorem State.deliverFingerprint_match (resuming : s.lc.lotState = .resuming)
    (same : key.extractLsb' 240 16 = s.lc.header.fp1 ∧ key.extractLsb' 224 16 = s.lc.header.fp2) :
    s.deliverFingerprint key = (s.setLot .isOpen).supAnswer 0 [] := by
  unfold State.deliverFingerprint
  dsimp only
  rw [resuming]
  exact if_pos same

/-- Another fingerprint erases the secret (R7). -/
theorem State.deliverFingerprint_mismatch (resuming : s.lc.lotState = .resuming)
    (other : ¬(key.extractLsb' 240 16 = s.lc.header.fp1 ∧ key.extractLsb' 224 16 = s.lc.header.fp2)) :
    s.deliverFingerprint key = (s.withLc { s.lc with secret := none, lotState := .suspended }).supAnswer 36 [] := by
  unfold State.deliverFingerprint
  dsimp only
  rw [resuming]
  exact if_neg other

end

/-- Settles O41: the checks, the begin, and the delivery of the fingerprint. -/
theorem resumeLotProvesTheSecret : Obligations.ResumeLotProvesTheSecret := by
  refine ⟨fun tag lotTag secret s ready => ⟨fun none => ?none, fun active => ?active, fun suspended other => ?bad⟩,
    fun tag secret s ready suspended idle empty => ?begin,
    fun q lotTag secret key s powered resuming lane current empty derived => ⟨fun same => ?opens, fun other => ?erases⟩⟩
  case none =>
    rw [exec_resumeLot ready, ← State.supRefused ready]
    rcases none with h | h <;> (rw [resumeLotAct, show (s.taken 0x21 tag).lc.lotState = _ from h]; rfl)
  case active =>
    rw [exec_resumeLot ready, ← State.supRefused ready]
    simp only [List.mem_cons, List.not_mem_nil, or_false] at active
    rcases active with h | h | h | h <;> (rw [resumeLotAct, show (s.taken 0x21 tag).lc.lotState = _ from h]; rfl)
  case bad =>
    rw [exec_resumeLot ready, ← State.supRefused ready, resumeLotAct,
      show (s.taken 0x21 tag).lc.lotState = _ from suspended]
    exact congrArg _ (if_pos other)
  case begin =>
    rw [exec_resumeLot ready, resumeLotAct, show (s.taken 0x21 tag).lc.lotState = _ from suspended]
    dsimp only
    rw [if_neg (c := s.lc.header.lotTag ≠ (s.taken 0x21 tag).lc.header.lotTag) (not_not.mpr rfl),
      State.beginResume, State.duPlace_eq, State.placedEntry_fingerprint (by exact idle) (by exact empty)]
    rfl
  case opens =>
    subst derived
    rw [exec_derivationComplete powered, State.derived_fingerprint current empty
      (State.deliverFingerprint_match (by exact resuming) (by exact same)) rfl, State.supAnswer_lane (by exact lane)]
    exact ⟨_, rfl, rfl, rfl, rfl, rfl⟩
  case erases =>
    subst derived
    rw [exec_derivationComplete powered, State.derived_fingerprint current empty
      (State.deliverFingerprint_mismatch (by exact resuming) (by exact other)) rfl, State.supAnswer_lane (by exact lane)]
    exact ⟨_, rfl, rfl, rfl, rfl, rfl⟩

/-! ### CLOSE LOT (R9, R10) -/

theorem JEntry.isAdvance_iff {e : JEntry} : e.isAdvance = true ↔ ∃ k, e = .advance k := by
  cases e <;> simp [JEntry.isAdvance]

theorem Journal.hasAdvance_iff {j : Journal} : j.hasAdvance = true ↔
    ∃ k, JEntry.advance k ∈ j.queue ∨ ∃ w, j.write = some w ∧ w.entry = .advance k := by
  rw [Journal.hasAdvance, Bool.or_eq_true, List.any_eq_true, Option.any_eq_true]
  simp only [JEntry.isAdvance_iff]
  constructor
  · rintro (⟨e, mem, k, rfl⟩ | ⟨w, write, k, entry⟩)
    · exact ⟨k, .inl mem⟩
    · exact ⟨k, .inr ⟨w, write, entry⟩⟩
  · rintro ⟨k, mem | ⟨w, write, entry⟩⟩
    · exact .inl ⟨_, mem, k, rfl⟩
    · exact .inr ⟨w, write, k, entry⟩

/-- Under an OPEN or SUSPENDED lot the wafer and the journal decide (R9). -/
theorem closeLotAct_lot {s : State} (lot : s.lc.lotState = .isOpen ∨ s.lc.lotState = .suspended) :
    closeLotAct s =
      if s.lc.wafer = .loading ∨ s.lc.wafer = .active then s.supAnswer 41 []
      else if s.js.hasAdvance then s.supAnswer 37 []
      else s.beginClose := by
  rcases lot with lot | lot <;> (rw [closeLotAct, lot]; rfl)

/-- Settles O42: the checks of R9, then the steps of R10. -/
theorem closeLotBegins : Obligations.CloseLotBegins := by
  intro tag s ready
  rw [exec_closeLot ready]
  refine ⟨fun none => ?none, fun active => ?active, fun lot wafer => ?wafer,
    fun lot wafer => ⟨fun advance => ?busy, fun left idle count => ?begin⟩⟩
  case none =>
    rw [← State.supRefused ready]
    rcases none with h | h <;> (rw [closeLotAct, show (s.taken 0x22 tag).lc.lotState = _ from h]; rfl)
  case active =>
    rw [← State.supRefused ready]
    simp only [List.mem_cons, List.not_mem_nil, or_false] at active
    rcases active with h | h | h <;> (rw [closeLotAct, show (s.taken 0x22 tag).lc.lotState = _ from h]; rfl)
  case wafer => rw [closeLotAct_lot (by exact lot), if_pos (by exact wafer), State.supRefused ready]
  all_goals
    have unloaded : ¬(s.lc.wafer = .loading ∨ s.lc.wafer = .active) := by
      rcases wafer with h | h <;> rw [h] <;> decide
  case busy =>
    rw [closeLotAct_lot (by exact lot), if_neg (by exact unloaded), if_pos (by exact Journal.hasAdvance_iff.mpr advance),
      State.supRefused ready]
  case begin =>
    have free : ¬(s.taken 0x22 tag).js.hasAdvance = true := by
      rw [Journal.hasAdvance_iff]
      rintro ⟨k, queued | ⟨w, write, entry⟩⟩
      · exact (idle k).1 queued
      · exact (idle k).2 w write entry
    have unused (k : Site) : left k = (s.sa.blocks.get k).unused := (count k).trans rfl
    have sum : (s.sa.blocks.toList.map SiteBlocks.unused).sum = left 0 + left 1 + left 2 + left 3 := by
      rw [unused, unused, unused, unused]
      simp [Four.toList, Four.get]
      omega
    rw [closeLotAct_lot (by exact lot), if_neg (by exact unloaded), if_neg free, State.beginClose, State.jsPlace_eq, ← sum]
    rfl

end Sys2Proof.Machine
end

section
/-!
PROOFS. Loading and closing a wafer (O43, O44).
-/

namespace Sys2Proof.Machine

/-! ### LOAD WAFER (R14, R15) -/

section

variable {s : State}

theorem exec_loadWafer (ready : s.SupReady) (tag : Byte) (number cols rows : Word) :
    exec (.loadWafer tag number cols rows) s = .next (loadWaferAct number cols rows (s.taken 0x23 tag)) :=
  congrArg _ ((State.live_powered ready.powered _).trans (State.supRequest_ready ready ..))

theorem exec_closeWafer (ready : s.SupReady) (tag : Byte) :
    exec (.closeWafer tag) s = .next (closeWaferAct (s.taken 0x24 tag)) :=
  congrArg _ ((State.live_powered ready.powered _).trans (State.supRequest_ready ready ..))

theorem loadWaferValid_iff {number cols rows : Word} : loadWaferValid number cols rows = true ↔
    number ≠ 0 ∧ number.toNat ≤ 255 ∧ cols ≠ 0 ∧ cols.toNat ≤ 128 ∧ rows ≠ 0 ∧ rows.toNat ≤ 128 := by
  simp only [loadWaferValid, Bool.and_eq_true, bne_iff_ne, decide_eq_true_eq, and_assoc]

theorem State.loadReports_get (k : Site) (s : State) :
    s.loadReports.get k = if (s.chan k).state = .halted then .notRunHalted
      else if (s.site k).enabled = false then .notRunDisabled else .awaited := by
  have report : s.loadReports.get k = calReportOf (s.site k).enabled (s.chan k).state := by fin_cases k <;> rfl
  rw [report, calReportOf]
  cases (s.site k).enabled <;> rfl

/-- An IDLE or UNCALIBRATED channel of an enabled site begins a calibration (R133). -/
theorem Channel.loaded_begins {c : Channel} (state : c.state = .idle ∨ c.state = .uncalibrated) :
    c.loaded true = { c with state := .calibrating, calRun := some { codes := [], kind := 0x23 } } :=
  if_pos ⟨rfl, state⟩

/-- A channel of a disabled site, a HALTED one and one in a calibration stay as they are (R133). -/
theorem Channel.loaded_stays {c : Channel} {enabled : Bool}
    (stays : enabled = false ∨ c.state = .halted ∨ c.state = .calibrating) : c.loaded enabled = c := by
  refine if_neg ?_
  rintro ⟨rfl, state⟩
  rcases stays with h | h | h
  · cases h
  · rw [h] at state; simp at state
  · rw [h] at state; simp at state

/-- The steps of R15 with no access waiting at the port. -/
theorem State.beginLoad_eq (free : s.port = []) (number cols rows : Word) :
    s.beginLoad number cols rows = { s with
      lc := { s.lc with
        wafer := .loading
        waferNumber := number.toNat
        cols := cols.toNat
        rows := rows.toNat
        load := some { reload := number == s.lc.lastWafer, journalDone := false, cal := s.loadReports } }
      drt := Table.emptied
      chans := s.loadChans
      sup := { s.sup with lane := s.sup.lane.map fun r => { r with task := .loadWafer } }
      js := Journal.begun s.sa.mark { s.js with queue := s.js.queue ++ [.wafer number] } } := by
  rw [State.beginLoad, State.drainPort_nil free]
  exact State.jsPlace_eq ..

end

/-- Settles O43: the checks of R14, then the steps of R15. -/
theorem loadWaferBegins : Obligations.LoadWaferBegins := by
  refine ⟨fun tag number cols rows s ready => ⟨fun lot => ?lot, fun lot wafer => ?wafer, fun lot wafer bad => ?bad⟩,
    fun tag number cols rows s ready lot wafer h1 h2 h3 h4 h5 h6 free => ?begin⟩
  all_goals rw [exec_loadWafer ready, loadWaferAct]
  case lot =>
    rw [if_pos (by exact lot), State.supRefused ready]
    rfl
  case wafer =>
    rw [if_neg (not_not.mpr (by exact lot)), if_pos (by exact wafer), State.supRefused ready]
    rfl
  all_goals
    have unloaded : ¬(s.lc.wafer = .loading ∨ s.lc.wafer = .active) := by
      rcases wafer with h | h <;> rw [h] <;> decide
    rw [if_neg (not_not.mpr (by exact lot)), if_neg (by exact unloaded)]
  case bad =>
    have invalid : loadWaferValid number cols rows = false := by
      rw [← Bool.not_eq_true, loadWaferValid_iff]
      rintro ⟨h1, h2, h3, h4, h5, h6⟩
      rcases bad with h | h | h | h | h | h
      exacts [h1 h, absurd h2 (by omega), h3 h, absurd h4 (by omega), h5 h, absurd h6 (by omega)]
    rw [invalid, Bool.not_false, if_pos rfl, State.supRefused ready]
    rfl
  case begin =>
    rw [loadWaferValid_iff.mpr ⟨h1, h2, h3, h4, h5, h6⟩, Bool.not_true, if_neg Bool.false_ne_true,
      State.beginLoad_eq (by exact free)]
    refine ⟨_, rfl, rfl, rfl, rfl, rfl, ⟨_, rfl, rfl, rfl, fun k => State.loadReports_get k _⟩, rfl, rfl, fun p => rfl,
      rfl, fun st => by cases st <;> rfl, rfl, fun k enabled state => ?_, fun k stays => ?_, rfl, rfl⟩
    · exact (State.loadChans_get k _).trans (enabled ▸ Channel.loaded_begins state)
    · exact (State.loadChans_get k _).trans (Channel.loaded_stays stays)

end Sys2Proof.Machine
end

section
/-!
PROOFS. Closing a wafer (O44): every record of the table dealt with by a sweep, every slot emptied.
-/

namespace Sys2Proof.Machine

/-! ### A sweep over the table -/

section

variable {f : DieRecord → DieRecord} {d : Table}

/-- A sweep reaches a record that is not behind it as it was. -/
theorem Table.swept_ahead (f : DieRecord → DieRecord) (d : Table) (n : Nat) :
    ((List.range n).foldl (Table.convertAt f) d).records[n]? = d.records[n]? := by
  rw [Table.foldl_convertAt_records _ _ List.nodup_range, if_neg (by simp)]

theorem Table.convertAt_none {i : Nat} (h : d.records[i]? = none) : d.convertAt f i = d := by
  rw [Table.convertAt, h]

theorem Table.convertAt_same {i : Nat} {r : DieRecord} (h : d.records[i]? = some r) (same : f r = r) :
    Table.convertAt f d i = d := by
  rw [Table.convertAt, h]
  exact if_pos same

theorem Table.convertAt_changed {i : Nat} {r : DieRecord} (h : d.records[i]? = some r) (changed : f r ≠ r) :
    Table.convertAt f d i = d.modify i f := by
  rw [Table.convertAt, h]
  exact if_neg changed

/-- A sweep moves the counts record by record. -/
theorem Table.convert_counts (f : DieRecord → DieRecord) (d : Table) :
    (d.convert f).counts = d.records.foldl (fun c r => c.change r (f r)) d.counts := by
  have upTo (n : Nat) : ((List.range n).foldl (Table.convertAt f) d).counts =
      (d.records.take n).foldl (fun c r => c.change r (f r)) d.counts := by
    induction n with
    | zero => rfl
    | succ n ih =>
      have ahead := Table.swept_ahead f d n
      rw [List.range_succ, List.foldl_append, List.take_add_one, List.foldl_append, ← ih]
      rw [List.foldl_cons, List.foldl_nil]
      cases here : d.records[n]? with
      | none => rw [Table.convertAt_none (ahead.trans here)]; rfl
      | some r =>
        by_cases same : f r = r
        · rw [Table.convertAt_same (ahead.trans here) same]
          exact (Counters.change_same _ (congrArg _ same) (congrArg _ same) (congrArg _ same)).symm
        · rw [Table.convertAt_changed (ahead.trans here) same, Table.modify_some (ahead.trans here)]
          rfl
  rw [Table.convert, upTo, List.take_length]

theorem Table.convertAt_marks_hit {i p : Nat} {r : DieRecord} (page : p < 128) (h : d.records[i]? = some r)
    (on : i / 64 = p) (changed : f r ≠ r) : (Table.convertAt f d i).marks[p]? = some true := by
  rw [Table.convertAt_changed h changed, Table.modify_some h, on]
  simp [page]

theorem Table.convertAt_marks_miss {i p : Nat} (off : ¬∃ r, d.records[i]? = some r ∧ i / 64 = p ∧ f r ≠ r) :
    (Table.convertAt f d i).marks[p]? = d.marks[p]? := by
  cases h : d.records[i]? with
  | none => rw [Table.convertAt_none h]
  | some r =>
    by_cases same : f r = r
    · rw [Table.convertAt_same h same]
    · have other : i / 64 ≠ p := fun on => off ⟨r, h, on, same⟩
      rw [Table.convertAt_changed h same, Table.modify_some h]
      exact Vector.getElem?_setIfInBounds_ne other

/-- A sweep marks the pages of the records it changes, and no other. -/
theorem Table.convert_marks (f : DieRecord → DieRecord) (d : Table) {p : Nat} (page : p < 128) :
    ((∃ i r, d.records[i]? = some r ∧ i / 64 = p ∧ f r ≠ r) → (d.convert f).marks[p]? = some true) ∧
    (¬(∃ i r, d.records[i]? = some r ∧ i / 64 = p ∧ f r ≠ r) → (d.convert f).marks[p]? = d.marks[p]?) := by
  have upTo (n : Nat) :
      ((∃ i r, i < n ∧ d.records[i]? = some r ∧ i / 64 = p ∧ f r ≠ r) →
        ((List.range n).foldl (Table.convertAt f) d).marks[p]? = some true) ∧
      (¬(∃ i r, i < n ∧ d.records[i]? = some r ∧ i / 64 = p ∧ f r ≠ r) →
        ((List.range n).foldl (Table.convertAt f) d).marks[p]? = d.marks[p]?) := by
    induction n with
    | zero => exact ⟨fun ⟨i, r, h, _⟩ => absurd h (Nat.not_lt_zero i), fun _ => rfl⟩
    | succ n ih =>
      have ahead := Table.swept_ahead f d n
      rw [List.range_succ, List.foldl_append, List.foldl_cons, List.foldl_nil]
      by_cases hit : ∃ r, d.records[n]? = some r ∧ n / 64 = p ∧ f r ≠ r
      · obtain ⟨r, here, on, changed⟩ := hit
        exact ⟨fun _ => Table.convertAt_marks_hit page (ahead.trans here) on changed,
          fun none => absurd ⟨n, r, n.lt_succ_self, here, on, changed⟩ none⟩
      · have before : (∃ i r, i < n + 1 ∧ d.records[i]? = some r ∧ i / 64 = p ∧ f r ≠ r) ↔
            ∃ i r, i < n ∧ d.records[i]? = some r ∧ i / 64 = p ∧ f r ≠ r := by
          refine ⟨fun ⟨i, r, lt, h⟩ => ⟨i, r, lt_of_le_of_ne (Nat.le_of_lt_succ lt) ?_, h⟩,
            fun ⟨i, r, lt, h⟩ => ⟨i, r, Nat.lt_succ_of_lt lt, h⟩⟩
          rintro rfl
          exact hit ⟨r, h⟩
        rw [before, Table.convertAt_marks_miss (by rwa [ahead])]
        exact ih
  have all : (∃ i r, i < d.records.length ∧ d.records[i]? = some r ∧ i / 64 = p ∧ f r ≠ r) ↔
      ∃ i r, d.records[i]? = some r ∧ i / 64 = p ∧ f r ≠ r := by
    refine ⟨fun ⟨i, r, _, h⟩ => ⟨i, r, h⟩, fun ⟨i, r, h⟩ => ⟨i, r, ?_, h⟩⟩
    exact (List.getElem?_eq_some_iff.mp h.1).1
  rw [← all]
  exact upTo _

/-- What a sweep adds to a count: one for each record on which the count rises. -/
theorem foldl_change_count {g : Counters → Nat} {p : DieRecord → Bool}
    (step : ∀ c r, g (c.change r (f r)) = g c + if p r then 1 else 0) (rs : List DieRecord) (c : Counters) :
    g (rs.foldl (fun c r => c.change r (f r)) c) = g c + rs.countP p := by
  induction rs generalizing c with
  | nil => rfl
  | cons r rs ih =>
    rw [List.foldl_cons, ih, step, List.countP_cons]
    omega

end

/-! ### Slots emptied (R17, R95) -/

/-- The derivation entry belongs to a slot that `which` selects and that is not EMPTY. -/
def State.emptiedEntry (which : Site → SlotId → Bool) (s : State) : DEntry → Bool
  | .slot k l .. => which k l && ((s.chan k).slot l).state != .empty
  | .adopt .. | .fingerprint _ => false

/-- `t` is `s` with the slots that `which` selects emptied and their derivations withdrawn (R17, R95). -/
structure State.Emptied (which : Site → SlotId → Bool) (s t : State) : Prop where
  slots : ∀ k l, (t.chan k).slot l = if which k l = true ∧ ((s.chan k).slot l).state ≠ .empty
    then ((s.chan k).slot l).released (s.du.runs (DEntry.isSlot k l)) else (s.chan k).slot l
  channels : ∀ k, { t.chan k with slotA := (s.chan k).slotA, slotB := (s.chan k).slotB } = s.chan k
  derivations : t.du = s.du.withdraw (s.emptiedEntry which)
  frame : { t with du := s.du, chans := s.chans } = s

theorem DEntry.isSlot_iff {k : Site} {l : SlotId} {e : DEntry} :
    e.isSlot k l = true ↔ ∃ n p t, e = .slot k l n p t := by
  cases e <;> simp [DEntry.isSlot]

theorem DerivUnit.withdraw_none (u : DerivUnit) : u.withdraw (fun _ => false) = u := by
  obtain ⟨queue, current, pointer⟩ := u
  cases current <;> simp [DerivUnit.withdraw]

theorem DerivUnit.withdraw_withdraw (p q : DEntry → Bool) (u : DerivUnit) :
    (u.withdraw p).withdraw q = u.withdraw fun e => p e || q e := by
  obtain ⟨queue, current, pointer⟩ := u
  simp only [DerivUnit.withdraw, List.filter_filter, Option.map_map]
  congr 1
  · exact List.filter_congr fun e _ => by rw [Bool.not_or, Bool.and_comm]
  · cases current with
    | none => rfl
    | some d => cases hp : p d.entry <;> cases hq : q d.entry <;> simp [hp, hq]

/-- Entries that a withdrawal leaves run as before. -/
theorem DerivUnit.runs_withdraw {p q : DEntry → Bool} (apart : ∀ e, q e = true → p e = false) (u : DerivUnit) :
    (u.withdraw p).runs q = u.runs q := by
  obtain ⟨queue, current, pointer⟩ := u
  cases current with
  | none => rfl
  | some d =>
    cases hq : q d.entry with
    | false => cases hp : p d.entry <;> simp [DerivUnit.withdraw, DerivUnit.runs, hp, hq]
    | true => simp [DerivUnit.withdraw, DerivUnit.runs, apart d.entry hq]

theorem State.emptied_refl (s : State) : State.Emptied (fun _ _ => false) s s := by
  have none : s.emptiedEntry (fun _ _ => false) = fun _ => false := by
    funext e
    cases e <;> rfl
  exact ⟨fun k l => by simp, fun k => rfl, by rw [none, DerivUnit.withdraw_none], rfl⟩

/-- A slot that is not EMPTY is emptied. -/
def State.emptyIf (k : Site) (l : SlotId) (s : State) : State :=
  if ((s.chan k).slot l).state = .empty then s else s.emptySlot k l

theorem State.emptySlots_eq (k : Site) (s : State) : s.emptySlots k = (s.emptyIf k .a).emptyIf k .b := rfl

/-- The slots that `which` selects, and slot `l` of site `k`. -/
def alsoSlot (k : Site) (l : SlotId) (which : Site → SlotId → Bool) (j : Site) (m : SlotId) : Bool :=
  which j m || (j == k && m == l)

theorem alsoSlot_same (k : Site) (l : SlotId) (which : Site → SlotId → Bool) : alsoSlot k l which k l = true := by
  simp [alsoSlot]

theorem alsoSlot_other {k j : Site} {l m : SlotId} (other : ¬(j = k ∧ m = l)) (which : Site → SlotId → Bool) :
    alsoSlot k l which j m = which j m := by
  simp only [not_and] at other
  by_cases site : j = k
  · simp [alsoSlot, other site]
  · simp [alsoSlot, site]

/-- One more slot emptied. -/
theorem State.Emptied.step {which : Site → SlotId → Bool} {s t : State} (h : State.Emptied which s t) {k : Site}
    {l : SlotId} (fresh : which k l = false) : State.Emptied (alsoSlot k l which) s (t.emptyIf k l) := by
  have here : (t.chan k).slot l = (s.chan k).slot l := by rw [h.slots, fresh, if_neg (by simp)]
  by_cases empty : ((s.chan k).slot l).state = .empty
  · have same : t.emptyIf k l = t := if_pos (by rw [here, empty])
    rw [same]
    have entries : s.emptiedEntry (alsoSlot k l which) = s.emptiedEntry which := by
      funext e
      cases e with
      | slot j m n p tag =>
        by_cases own : j = k ∧ m = l
        · obtain ⟨rfl, rfl⟩ := own
          simp [State.emptiedEntry, empty]
        · simp only [State.emptiedEntry, alsoSlot_other own]
      | adopt => rfl
      | fingerprint => rfl
    refine ⟨fun j m => ?_, h.channels, by rw [entries, h.derivations], h.frame⟩
    by_cases own : j = k ∧ m = l
    · obtain ⟨rfl, rfl⟩ := own
      rw [here, if_neg fun c => c.2 empty]
    · rw [h.slots, alsoSlot_other own]
  · have does : t.emptyIf k l = t.emptySlot k l := if_neg (by rw [here]; exact empty)
    have runs : t.du.runs (DEntry.isSlot k l) = s.du.runs (DEntry.isSlot k l) := by
      rw [h.derivations]
      refine DerivUnit.runs_withdraw (fun e own => ?_) _
      obtain ⟨n, p, tag, rfl⟩ := DEntry.isSlot_iff.mp own
      simp [State.emptiedEntry, fresh]
    have entries : s.emptiedEntry (alsoSlot k l which) = fun e => s.emptiedEntry which e || DEntry.isSlot k l e := by
      funext e
      cases e with
      | slot j m n p tag =>
        by_cases own : j = k ∧ m = l
        · obtain ⟨rfl, rfl⟩ := own
          simp [State.emptiedEntry, alsoSlot_same, DEntry.isSlot, empty]
        · have apart : DEntry.isSlot k l (.slot j m n p tag) = false := by simpa [DEntry.isSlot] using own
          rw [apart, Bool.or_false]
          simp only [State.emptiedEntry, alsoSlot_other own]
      | adopt => rfl
      | fingerprint => rfl
    rw [does, State.emptySlot_released, runs, here]
    refine ⟨fun j m => ?_, fun j => ?_, ?_, h.frame⟩
    · by_cases site : j = k
      · subst site
        rw [State.chan_withChans, Four.get_set_same]
        by_cases slot : m = l
        · subst slot
          rw [Channel.slot_setSlot_same, if_pos ⟨alsoSlot_same .., empty⟩]
        · rw [Channel.slot_setSlot_ne _ _ slot, h.slots, alsoSlot_other fun c => slot c.2]
      · rw [State.chan_withChans, Four.get_set_ne _ _ site, alsoSlot_other fun c => site c.1]
        exact h.slots j m
    · by_cases site : j = k
      · subst site
        rw [State.chan_withChans, Four.get_set_same]
        exact Eq.trans (by cases l <;> rfl) (h.channels j)
      · rw [State.chan_withChans, Four.get_set_ne _ _ site]
        exact h.channels j
    · rw [entries, ← DerivUnit.withdraw_withdraw, ← h.derivations]
      rfl

/-- The slots of site `k` emptied. -/
theorem State.Emptied.site {which : Site → SlotId → Bool} {s t : State} (h : State.Emptied which s t) {k : Site}
    (fresh : ∀ l, which k l = false) : State.Emptied (fun j m => which j m || j == k) s (t.emptySlots k) := by
  have both : (fun j m => which j m || j == k) = alsoSlot k .b (alsoSlot k .a which) := by
    funext j m
    have apart : (SlotId.b == SlotId.a) = false := rfl
    cases m <;> simp [alsoSlot, apart]
  rw [both, State.emptySlots_eq]
  exact (h.step (fresh .a)).step (by rw [alsoSlot_other (fun c => SlotId.noConfusion c.2), fresh])

/-- Every slot emptied. -/
theorem State.emptied_all (s : State) :
    State.Emptied (fun _ _ => true) s (allSites.foldl (fun s k => s.emptySlots k) s) := by
  have steps := ((((State.emptied_refl s).site (k := 0) fun _ => rfl).site (k := 1) fun _ => rfl).site (k := 2)
    fun _ => rfl).site (k := 3) fun _ => rfl
  have every : (fun (j : Site) (_ : SlotId) => (((false || j == 0) || j == 1) || j == 2) || j == 3) = fun _ _ => true := by
    funext j m
    fin_cases j <;> rfl
  rw [every] at steps
  simp only [allSites, List.foldl_cons, List.foldl_nil]
  exact steps

/-! ### CLOSE WAFER (R16, R17) -/

theorem allSites_any {p : Site → Bool} : allSites.any p = true ↔ ∃ k, p k = true := by
  rw [List.any_eq_true]
  exact ⟨fun ⟨k, _, h⟩ => ⟨k, h⟩, fun ⟨k, h⟩ => ⟨k, by fin_cases k <;> simp [allSites], h⟩⟩

theorem ChanState.inBurn_iff {st : ChanState} : st.inBurn = true ↔
    st ∈ [ChanState.waiting, .qualifying, .checking, .adoptWait, .programming, .verifying, .locking] := by
  cases st <;> decide

/-- Work in flight at any site (R16 step 4). -/
theorem State.inFlight_iff {s : State} : s.inFlight = true ↔
    ∃ k, (s.chan k).state ∈ [ChanState.waiting, .qualifying, .checking, .adoptWait, .programming, .verifying, .locking] ∨
      (s.site k).cmd ≠ none ∨ ∃ b, (s.site k).burn = some b ∧ b.waitsCal = true := by
  rw [State.inFlight, allSites_any]
  simp only [Bool.or_eq_true, ChanState.inBurn_iff, Option.isSome_iff_ne_none, Option.any_eq_true, or_assoc]

/-- A record under the sweep of CLOSE WAFER (R17). -/
theorem DieRecord.swept_eq (stamp : BitVec 32) (r : DieRecord) : r.swept stamp =
    if r.state = .reserved then
      if r.pulses = 0 then { r with holder := none, state := .void, stamp := stamp }
      else { r with holder := none, state := .interrupted, stamp := stamp, exhausted := true }
    else if r.state = .interrupted ∨ r.state = .failed then { r with holder := none, exhausted := true }
    else { r with holder := none } := by
  unfold DieRecord.swept
  cases h : r.state <;> simp

theorem DieRecord.swept_void (stamp : BitVec 32) (c : Counters) (r : DieRecord) :
    (c.change r (r.swept stamp)).get .void =
      c.get .void + if decide (r.state = .reserved ∧ r.pulses = 0) then 1 else 0 := by
  rw [Counters.change_get, DieRecord.swept_eq]
  by_cases clean : r.pulses = 0
  · cases h : r.state <;> simp [clean]
  · cases h : r.state <;> simp [clean]

theorem DieRecord.swept_exhausted (stamp : BitVec 32) (c : Counters) (r : DieRecord) :
    (c.change r (r.swept stamp)).exhausted = c.exhausted + if decide (r.exhausted = false ∧
      (r.state = .reserved ∧ r.pulses ≠ 0 ∨ r.state = .interrupted ∨ r.state = .failed)) then 1 else 0 := by
  rw [Counters.change_exhausted, DieRecord.swept_eq]
  by_cases clean : r.pulses = 0
  · cases h : r.state <;> cases marked : r.exhausted <;> simp [clean]
  · cases h : r.state <;> cases marked : r.exhausted <;> simp [clean]

/-- Settles O44: the checks of R16, then the sweep of R17. -/
theorem closeWaferSweeps : Obligations.CloseWaferSweeps := by
  refine ⟨fun tag s ready => ⟨fun unopen unsuspended => ?lot, fun lot wafer => ?wafer, fun lot wafer work => ?work⟩,
    fun tag out s ready lot wafer idle free entries => ?sweep⟩
  all_goals rw [exec_closeWafer ready, closeWaferAct]
  case lot =>
    rw [if_pos ⟨by exact unopen, by exact unsuspended⟩, State.supRefused ready]
    rfl
  all_goals rw [if_neg (fun h => lot.elim h.1 h.2)]
  case wafer =>
    rw [if_pos (by exact wafer), State.supRefused ready]
    rfl
  case work =>
    rw [if_neg (not_not.mpr (by exact wafer)), if_pos (State.inFlight_iff.mpr (by exact work)), State.supRefused ready]
    rfl
  case sweep =>
    have calm : ¬(s.taken 0x24 tag).inFlight = true := by
      rw [State.inFlight_iff]
      rintro ⟨k, burning | cmd | ⟨b, burn, waits⟩⟩
      · exact (idle k).1 burning
      · exact cmd (idle k).2.1
      · exact Bool.false_ne_true (((idle k).2.2 b burn).symm.trans waits)
    rw [if_neg (not_not.mpr (by exact wafer)), if_neg calm, State.sweepWafer, State.drainPort_nil (by exact free)]
    have emptied := State.emptied_all (s.taken 0x24 tag)
    generalize allSites.foldl (fun s k => s.emptySlots k) (s.taken 0x24 tag) = v at emptied ⊢
    have drt : v.drt = s.drt := (congrArg State.drt emptied.frame :)
    have lc : v.lc = s.lc := (congrArg State.lc emptied.frame :)
    have sup : v.sup = (s.taken 0x24 tag).sup := (congrArg State.sup emptied.frame :)
    have withdrawn : (s.taken 0x24 tag).emptiedEntry (fun _ _ => true) = out := by
      funext e
      rw [Bool.eq_iff_iff, entries]
      simp only [DEntry.isSlot_iff]
      cases e with
      | slot k l n p tag =>
        simp only [State.emptiedEntry, Bool.true_and, bne_iff_ne]
        exact ⟨fun h => ⟨k, l, ⟨n, p, tag, rfl⟩, h⟩, fun ⟨_, _, ⟨_, _, _, h⟩, live⟩ => by cases h; exact live⟩
      | adopt => simp [State.emptiedEntry]
      | fingerprint => simp [State.emptiedEntry]
    dsimp only
    rw [drt, lc, State.supAnswer_lane (q := ⟨0x24, tag, .plain⟩) (by exact congrArg SupLink.lane sup)]
    refine ⟨_, rfl, rfl, fun k l => ?slots, ?du, Table.convert_length .., Table.convert_posMap .., fun i r record => ?record,
      fun i changed => ?marks, emptied.channels, ?sup, ?frame⟩
    case slots =>
      refine (emptied.slots k l).trans ?_
      by_cases empty : ((s.chan k).slot l).state = .empty
      · rw [if_pos empty, if_neg fun c => c.2 empty]
        rfl
      · rw [if_neg empty, if_pos ⟨rfl, empty⟩]
        rfl
    case du =>
      refine emptied.derivations.trans ?_
      rw [withdrawn]
      rfl
    case record =>
      refine (Table.convert_records ..).trans ?_
      rw [record, Option.map_some, DieRecord.swept_eq]
    case marks =>
      rw [or_iff_not_imp_right, Nat.not_le]
      intro page
      cases record : s.drt.records[i]? with
      | none =>
        refine absurd ((Table.convert_records ..).trans ?_) changed
        rw [record]
        rfl
      | some r =>
        refine (Table.convert_marks _ _ page).1 ⟨i, r, record, rfl, fun same => changed ?_⟩
        refine (Table.convert_records ..).trans ?_
        rw [record, Option.map_some, same]
    case sup =>
      have void := foldl_change_count (g := fun c => c.get .void) (DieRecord.swept_void s.lc.clock) s.drt.records
        s.drt.counts
      have marked := foldl_change_count (g := Counters.exhausted) (DieRecord.swept_exhausted s.lc.clock) s.drt.records
        s.drt.counts
      have voids : (s.drt.convert (DieRecord.swept s.lc.clock)).counts.void - s.drt.counts.void =
          s.drt.records.countP fun r => r.state = .reserved ∧ r.pulses = 0 := by
        rw [Table.convert_counts]
        exact (congrArg (· - s.drt.counts.void) void).trans (Nat.add_sub_cancel_left ..)
      have marks : (s.drt.convert (DieRecord.swept s.lc.clock)).counts.exhausted - s.drt.counts.exhausted =
          s.drt.records.countP fun r => r.exhausted = false ∧
            (r.state = .reserved ∧ r.pulses ≠ 0 ∨ r.state = .interrupted ∨ r.state = .failed) := by
        rw [Table.convert_counts, marked, Nat.add_sub_cancel_left]
      rw [voids, marks, Table.convert_length]
      simp only [State.withSup_sup, State.withLc_sup, State.withDrt_sup, sup]
      rfl
    case frame =>
      exact congrArg (fun u : State => { u with lc := s.lc, drt := s.drt, sup := s.sup }) emptied.frame

end Sys2Proof.Machine
end

section
/-!
PROOFS. The profile store's SET PROFILE (O45) and CALIBRATE (O47).
-/

namespace Sys2Proof.Machine

/-! ### SET PROFILE (R137) -/

theorem clampTo_eq {lo hi n : Nat} (h : lo ≤ hi) : clampTo lo hi n = min hi (max lo n) := by
  unfold clampTo
  omega

theorem clampTo_inside {lo hi n : Nat} (low : lo ≤ n) (high : n ≤ hi) : clampTo lo hi n = n := by
  unfold clampTo
  omega

/-- The number whose bits are the eight given ones, from bit 0 on. -/
def eightBits (b0 b1 b2 b3 b4 b5 b6 b7 : Bool) : Nat :=
  b0.toNat + 2 * b1.toNat + 4 * b2.toNat + 8 * b3.toNat + 16 * b4.toNat + 32 * b5.toNat + 64 * b6.toNat + 128 * b7.toNat

theorem eightBits_testBit : ∀ b0 b1 b2 b3 b4 b5 b6 b7 : Bool,
    eightBits b0 b1 b2 b3 b4 b5 b6 b7 < 256 ∧ (eightBits b0 b1 b2 b3 b4 b5 b6 b7).testBit 0 = b0 ∧
    (eightBits b0 b1 b2 b3 b4 b5 b6 b7).testBit 1 = b1 ∧ (eightBits b0 b1 b2 b3 b4 b5 b6 b7).testBit 2 = b2 ∧
    (eightBits b0 b1 b2 b3 b4 b5 b6 b7).testBit 3 = b3 ∧ (eightBits b0 b1 b2 b3 b4 b5 b6 b7).testBit 4 = b4 ∧
    (eightBits b0 b1 b2 b3 b4 b5 b6 b7).testBit 5 = b5 ∧ (eightBits b0 b1 b2 b3 b4 b5 b6 b7).testBit 6 = b6 ∧
    (eightBits b0 b1 b2 b3 b4 b5 b6 b7).testBit 7 = b7 := by decide

/-- The clamped bits: one for each field stored otherwise than sent (R168). -/
theorem clampedBits_eq (p : ProfileWords) (q : Profile) : clampedBits (sentFields p) q.fields =
    eightBits (decide (q.w0 ≠ p.w0.toNat)) (decide (q.wmax ≠ p.wmax.toNat)) (decide (q.g ≠ p.g.toNat))
      (decide (q.pmax ≠ p.pmax.toNat)) (decide (q.tr ≠ p.tr.toNat)) (decide (q.tp ≠ p.tp.toNat))
      (decide (q.settle ≠ p.settle.toNat)) (decide (q.timeout ≠ p.timeout.toNat)) := by
  have weight (a b n : Nat) : (if a ≠ b then 2 ^ n else 0) = 2 ^ n * (decide (b ≠ a)).toNat := by
    by_cases h : a = b
    · simp [h]
    · simp [h, Ne.symm h]
  simp only [clampedBits, sentFields, Profile.fields, List.map_cons, List.map_nil, List.zip_cons_cons, List.zip_nil_right,
    List.zipIdx_cons, List.zipIdx_nil, List.sum_cons, List.sum_nil, weight, eightBits]
  omega

theorem exec_setProfile {s : State} (ready : s.SupReady) (tag : Byte) (p : ProfileWords) :
    exec (.setProfile tag p) s = .next (setProfileAct p (s.taken 0x25 tag)) :=
  congrArg _ ((State.live_powered ready.powered _).trans (State.supRequest_ready ready ..))

/-- Settles O45: the clamped fields, the bits that name them, and the answer. -/
theorem setProfileStores : Obligations.SetProfileStores := by
  refine ⟨fun p => ⟨clampProfile_inRange p, fun inside => ?inside⟩, fun p q clamped => ?clamped,
    fun p q b clamped bits => ?bits, fun tag p q b s ready clamped bits => ?answer⟩
  case inside =>
    obtain ⟨w0, wmax, g, pmax, tr, tp, settle, timeout⟩ := inside
    have fields : (clampProfile p).fields = sentFields p := by
      simp only [clampProfile, Profile.fields, sentFields, List.map_cons, List.map_nil,
        clampTo_inside w0.1 w0.2, clampTo_inside wmax.1 wmax.2, clampTo_inside g.1 g.2, clampTo_inside pmax.1 pmax.2,
        clampTo_inside tr.1 tr.2, clampTo_inside tp.1 tp.2, clampTo_inside settle.1 settle.2,
        clampTo_inside timeout.1 timeout.2]
    exact ⟨fields, by rw [fields]; simp [clampedBits, sentFields]⟩
  case clamped =>
    obtain ⟨w0, wmax, g, pmax, tr, tp, settle, timeout⟩ := clamped ▸ clampProfile_inRange p
    subst clamped
    exact ⟨clampTo_eq (by omega), clampTo_eq w0.2, clampTo_eq (by omega), clampTo_eq (by omega), clampTo_eq (by omega),
      clampTo_eq (Nat.le_trans tp.1 tp.2), clampTo_eq (by omega), clampTo_eq (by omega)⟩
  case bits =>
    obtain ⟨below, h0, h1, h2, h3, h4, h5, h6, h7⟩ := eightBits_testBit (decide (q.w0 ≠ p.w0.toNat))
      (decide (q.wmax ≠ p.wmax.toNat)) (decide (q.g ≠ p.g.toNat)) (decide (q.pmax ≠ p.pmax.toNat))
      (decide (q.tr ≠ p.tr.toNat)) (decide (q.tp ≠ p.tp.toNat)) (decide (q.settle ≠ p.settle.toNat))
      (decide (q.timeout ≠ p.timeout.toNat))
    rw [bits, clampedBits_eq, h0, h1, h2, h3, h4, h5, h6, h7]
    exact ⟨below, decide_eq_true_iff, decide_eq_true_iff, decide_eq_true_iff, decide_eq_true_iff, decide_eq_true_iff,
      decide_eq_true_iff, decide_eq_true_iff, decide_eq_true_iff⟩
  case answer =>
    subst clamped
    rw [exec_setProfile ready, setProfileAct, ← bits, State.answerProfile_store_taken ready.free]
    rfl

/-! ### CALIBRATE (R133) -/

section

variable {k : Site} {s : State}

theorem exec_calibrate (ready : s.SupReady) (tag : Byte) (channel : Word) :
    exec (.calibrate tag channel) s = .next (calibrateAct channel (s.taken 0x27 tag)) :=
  congrArg _ ((State.live_powered ready.powered _).trans (State.supRequest_ready ready ..))

theorem calibrateAct_enabled (enabled : (s.site k).enabled = true) : calibrateAct (wordOf k.val) s = calibrateChannel k s := by
  rw [calibrateAct, siteOf_val]
  exact if_neg (by simp [enabled])

theorem calibrateChannel_idle (state : (s.chan k).state = .idle ∨ (s.chan k).state = .uncalibrated) :
    calibrateChannel k s = (s.withChans (s.chans.set k
      { s.chan k with state := .calibrating, calRun := some { codes := [], kind := 0x27 } })).supTask (.calibrate k) := by
  unfold calibrateChannel
  rcases state with h | h <;> (rw [h]; rfl)

theorem calibrateChannel_burn (state : (s.chan k).state ∈
    [ChanState.waiting, .qualifying, .checking, .adoptWait, .programming, .verifying, .locking]) :
    calibrateChannel k s = (s.withChans (s.chans.set k { s.chan k with calDeferred := true })).supAnswer 3 [] := by
  simp only [List.mem_cons, List.not_mem_nil, or_false] at state
  unfold calibrateChannel
  rcases state with h | h | h | h | h | h | h <;> (rw [h]; rfl)

end

/-- Settles O47: the channel number, the enable state, then the channel state. -/
theorem calibrateActsByState : Obligations.CalibrateActsByState := by
  refine ⟨fun tag k s ready disabled => ?disabled, fun tag k s ready enabled => ⟨fun state => ?calibrating,
    fun state => ?idle, fun state => ?burn, fun state => ?halted, fun c big => ?range⟩⟩
  case range =>
    rw [exec_calibrate ready, calibrateAct, siteOf_big big, ← State.supRefused ready]
    rfl
  case disabled =>
    rw [exec_calibrate ready, calibrateAct, siteOf_val, ← State.supRefused ready]
    exact congrArg _ (if_pos (by rw [show ((s.taken 0x27 tag).site k).enabled = false from disabled]; rfl))
  all_goals rw [exec_calibrate ready, calibrateAct_enabled (by exact enabled)]
  case calibrating =>
    rw [calibrateChannel, show ((s.taken 0x27 tag).chan k).state = _ from state]
    rfl
  case idle =>
    rw [calibrateChannel_idle (by exact state)]
    rfl
  case burn =>
    rw [calibrateChannel_burn (by exact state)]
    exact congrArg _ ((State.supAnswer_taken (s := s) (kind := 0x27) (tag := tag) ready.free (by rfl) ..).trans rfl)
  case halted =>
    rw [calibrateChannel, show ((s.taken 0x27 tag).chan k).state = _ from state, ← State.supRefused ready]
    rfl

end Sys2Proof.Machine
end

section
/-!
PROOFS. The supervisor's requests on sites, watches, faults and alerts: O48, O50, O51, O54, O55.
-/

namespace Sys2Proof.Machine

/-- The answer of a request that left the supervisor link as it took it. -/
theorem State.supAnswer_after {s t : State} {kind tag : Byte} (sup : t.sup = (s.taken kind tag).sup) (code : Word)
    (ws : List Word) : t.supAnswer code ws = t.withSup { lane := none, io := { s.sup.io with
      replies := s.sup.io.replies ++ [⟨kind, tag, code :: ws⟩] } } := by
  rw [State.supAnswer, sup]
  rfl

/-! ### Watches (R174, R175) -/

section

variable {s : State}

theorem exec_setWatch (ready : s.SupReady) (tag : Byte) (entry kind action : Word) (value : BitVec 32) :
    exec (.setWatch tag entry kind action value) s = .next (setWatchAct entry kind action value (s.taken 0x2B tag)) :=
  congrArg _ ((State.live_powered ready.powered _).trans (State.supRequest_ready ready ..))

theorem exec_clearWatch (ready : s.SupReady) (tag : Byte) (entry : Word) :
    exec (.clearWatch tag entry) s = .next (clearWatchAct entry (s.taken 0x2C tag)) :=
  congrArg _ ((State.live_powered ready.powered _).trans (State.supRequest_ready ready ..))

/-- A watch with entry, kind, value and action in range is stored, and what stood there is answered (R174). -/
theorem setWatchAct_stored {e : Site} {kind a : Word} {value : BitVec 32} {c : WatchContent}
    (content : watchContentOf kind value = some c) (action : a = 0 ∨ a = 1) (tag : Byte) (free : s.sup.lane = none) :
    setWatchAct (wordOf e.val) kind a value (s.taken 0x2B tag) =
      ({ s with wt := s.wt.set e { content := c, hold := a == 1, hits := 0 } }.reply .supervisor
        ⟨0x2B, tag, [0, wordOf (s.wt.get e).content.kindCode] ++ twoWords (s.wt.get e).hits⟩) := by
  have low : a.toNat ≤ 1 := by rcases action with rfl | rfl <;> decide
  rw [setWatchAct, siteOf_val, content]
  dsimp only
  rw [if_pos low]
  exact (State.supAnswer_taken (s := s) (kind := 0x2B) (tag := tag) free (by rfl) ..).trans rfl

/-- A watch out of range is refused (R174). -/
theorem setWatchAct_refused {n kind a : Word} {value : BitVec 32}
    (bad : siteOf n = none ∨ watchContentOf kind value = none ∨ 2 ≤ a.toNat) :
    setWatchAct n kind a value s = s.supAnswer 43 [] := by
  unfold setWatchAct
  split
  · next e c entry content =>
    rcases bad with h | h | h
    · cases entry.symm.trans h
    · cases content.symm.trans h
    · exact if_neg (by omega)
  · rfl

end

theorem watchContentOf_none {kind : Word} {v : BitVec 32} (bad : (kind ≠ 1 ∧ kind ≠ 2) ∨
    (kind = 1 ∧ (hiWord v ≠ 0 ∨ 127 < (hiByte (loWord v)).toNat ∨ 127 < (loByte (loWord v)).toNat))) :
    watchContentOf kind v = none := by
  unfold watchContentOf
  rcases bad with ⟨h1, h2⟩ | ⟨rfl, out⟩
  · rw [if_neg h1, if_neg h2]
  · rw [if_pos rfl]
    refine if_neg ?_
    rintro ⟨high, col, row⟩
    rcases out with h | h | h
    · exact h high
    · exact absurd col (Nat.not_le.mpr h)
    · exact absurd row (Nat.not_le.mpr h)

theorem watchContentOf_position {p : Pos} (col : p.col.toNat ≤ 127) (row : p.row.toNat ≤ 127) :
    watchContentOf 1 (joinWords 0 (posWord p)) = some (.position p) := by
  rw [watchContentOf, if_pos rfl]
  dsimp only
  rw [loWord_joinWords, hiWord_joinWords, wordPos_posWord]
  exact if_pos ⟨rfl, col, row⟩

/-- Settles O50. -/
theorem watchesAreSetAndCleared : Obligations.WatchesAreSetAndCleared := by
  intro tag e s ready
  refine ⟨fun a n action => ?_, fun a p action col row => ?_, fun n kind a v bad => ?_, ?_, fun n big => ?_⟩
  · exact (exec_setWatch ready ..).trans (congrArg _ (setWatchAct_stored rfl action tag ready.free))
  · exact (exec_setWatch ready ..).trans
      (congrArg _ (setWatchAct_stored (watchContentOf_position col row) action tag ready.free))
  · rw [exec_setWatch ready, setWatchAct_refused, State.supRefused ready]
    rcases bad with h | h | h | h
    exacts [.inl (siteOf_big h), .inr (.inl (watchContentOf_none (.inl h))), .inr (.inr h),
      .inr (.inl (watchContentOf_none (.inr h)))]
  · rw [exec_clearWatch ready, clearWatchAct, siteOf_val]
    exact congrArg _ ((State.supAnswer_taken (s := s) (kind := 0x2C) (tag := tag) ready.free (by rfl) ..).trans rfl)
  · rw [exec_clearWatch ready, clearWatchAct, siteOf_big big, ← State.supRefused ready]
    rfl

/-! ### Faults (R184, R185) -/

theorem FaultUnit.words_first (u : FaultUnit) : (u.words.drop 4).take 6 = faultWords u.first := by
  rw [FaultUnit.words]
  cases u.first <;> rfl

theorem FaultUnit.words_last (u : FaultUnit) : (u.words.drop 10).take 6 = faultWords u.last := by
  rw [FaultUnit.words]
  cases u.first <;> cases u.last <;> rfl

theorem FaultUnit.words_length (u : FaultUnit) : u.words.length = 16 := by
  rw [FaultUnit.words]
  cases u.first <;> cases u.last <;> rfl

/-- Settles O54. -/
theorem faultsAreReadAndCleared : Obligations.FaultsAreReadAndCleared := by
  intro tag s powered room free
  refine ⟨?_, ?_, ?_, rfl, fun rec n mem => ?_⟩
  · refine congrArg _ ((State.live_powered powered _).trans ((State.supRequest_inStop room free rfl ..).trans ?_))
    exact State.supAnswer_taken (s := s) (t := s.taken 0x32 tag) free rfl ..
  · refine congrArg _ ((State.live_powered powered _).trans ((State.supRequest_inStop room free rfl ..).trans ?_))
    exact State.supAnswer_taken (s := s) (t := (s.taken 0x33 tag).withFu s.fu.cleared) free rfl ..
  · exact FaultUnit.words_length s.fu
  · simp only [List.mem_cons, Prod.mk.injEq, List.not_mem_nil, or_false] at mem
    have six : (s.fu.words.drop n).take 6 = faultWords rec := by
      rcases mem with ⟨rfl, rfl⟩ | ⟨rfl, rfl⟩
      · exact FaultUnit.words_first s.fu
      · exact FaultUnit.words_last s.fu
    refine ⟨fun absent => ?_, fun f present => ?_⟩
    · have head : s.fu.words[n]? = ((s.fu.words.drop n).take 6)[0]? := by
        rw [List.getElem?_take_of_lt (by omega), List.getElem?_drop, Nat.add_zero]
      rw [head, six, absent]
      rfl
    · rw [six, present]
      rfl

/-! ### Alerts (R178, R179) -/

theorem AlertFlags.toWord_ofWord (w : Word) : (AlertFlags.ofWord w).toWord = w &&& 0x000F := by
  have bits : ∀ (a b c d : Bool) (i : Fin 16), (AlertFlags.toWord ⟨a, b, c, d⟩).getLsbD i =
      (decide (i.val = 0) && a || decide (i.val = 1) && b || decide (i.val = 2) && c || decide (i.val = 3) && d) := by
    decide
  have mask : ∀ i : Fin 16, (0x000F : Word).getLsbD i = decide (i.val < 4) := by decide
  apply BitVec.eq_of_getLsbD_eq
  intro i hi
  rw [BitVec.getLsbD_and, mask ⟨i, hi⟩]
  refine (bits _ _ _ _ ⟨i, hi⟩).trans ?_
  rcases i with _ | _ | _ | _ | i <;> simp

/-- Settles O55. -/
theorem alertsFollowFlagsAndMask : Obligations.AlertsFollowFlagsAndMask := by
  refine ⟨fun tag w f s powered room free flags => ?ack, fun tag w s ready => ?mask,
    fun tag w s powered room stopped => ?stopped, fun u => ?level⟩
  case ack =>
    subst flags
    refine congrArg _ ((State.live_powered powered _).trans ((State.supRequest_inStop room free rfl ..).trans ?_))
    exact (State.supAnswer_taken (s := s) (kind := 0x34) (tag := tag) free (by rfl) ..).trans rfl
  case mask =>
    refine congrArg _ ((State.live_powered ready.powered _).trans ((State.supRequest_ready ready ..).trans ?_))
    rw [setAlertMaskAct, AlertFlags.toWord_ofWord]
    exact (State.supAnswer_taken (s := s) (kind := 0x35) (tag := tag) ready.free (by rfl) ..).trans rfl
  case stopped =>
    exact congrArg _ ((State.live_powered powered _).trans (State.supRequest_stopped room stopped rfl ..))
  case level => simp only [FaultUnit.alertLevel, Bool.or_eq_true, Bool.and_eq_true, or_assoc]

/-! ### Sites (R171, R172) -/

section

variable {k : Site} {l : SlotId} {s : State}

theorem exec_enableSite (ready : s.SupReady) (tag : Byte) (site : Word) :
    exec (.enableSite tag site) s = .next (enableSiteAct site (s.taken 0x28 tag)) :=
  congrArg _ ((State.live_powered ready.powered _).trans (State.supRequest_ready ready ..))

theorem exec_disableSite (ready : s.SupReady) (tag : Byte) (site : Word) :
    exec (.disableSite tag site) s = .next (disableSiteAct site (s.taken 0x29 tag)) :=
  congrArg _ ((State.live_powered ready.powered _).trans (State.supRequest_ready ready ..))

/-- A site with both lanes free is disabled with its slots released (R172). -/
theorem disableSiteAct_free (cmd : (s.site k).cmd = none) (burn : (s.site k).burn = none) :
    disableSiteAct (wordOf k.val) s = ((s.releaseSlots k).modSite k fun sl => { sl with enabled := false }).supAnswer 0
      [wordOf (s.chan k).slotsTaken] := by
  rw [disableSiteAct, siteOf_val]
  exact if_neg (by simp [cmd, burn])

/-- A slot that is taken for no record is released already. -/
theorem State.releaseSlot_untaken (untaken : ((s.chan k).slot l).taking = none) : s.releaseSlot k l = s := by
  rw [State.releaseSlot, untaken]

/-- What waits at the port leaves the supervisor link and the time. -/
theorem State.drainFor_sup (k : Site) (b : Bool) (s : State) : (s.drainFor k b).sup = s.sup := by
  obtain ⟨-, -, sup, -⟩ := (State.took_drainFor k b s).fields
  exact sup

/-- Slots to release are released after the accesses that wait before (R44, R84). -/
theorem State.releaseSlots_taken (taken : (s.chan k).slotsTaken ≠ 0) :
    s.releaseSlots k = ((s.drainFor k false).releaseSlot k .a).releaseSlot k .b := if_neg taken

/-- The release of one slot of the two, on a channel whose other slot is taken for no record. -/
theorem State.releaseSlot_only {x : Taking} {r : DieRecord} (taking : ((s.chan k).slot l).taking = some x)
    (other : ∀ m, m ≠ l → ((s.chan k).slot m).taking = none) (record : s.drt.records[x.idx]? = some r) :
    (s.releaseSlot k .a).releaseSlot k .b = ((s.withDu (s.du.withdraw (DEntry.isSlot k l))).withChans (s.chans.set k
      ((s.chan k).setSlot l (((s.chan k).slot l).released (s.du.runs (DEntry.isSlot k l)))))).withDrt
        { s.drt with
          records := s.drt.records.set x.idx { r with holder := none }
          marks := s.drt.marks.setIfInBounds (x.idx / 64) true } := by
  cases l with
  | a =>
    rw [State.releaseSlot_eq taking record, State.releaseSlot_untaken]
    rw [State.chan_withDrt, State.chan_withChans, Four.get_set_same]
    exact other .b SlotId.noConfusion
  | b => rw [State.releaseSlot_untaken (other .a SlotId.noConfusion), State.releaseSlot_eq taking record]

/-- The release of both slots (R84). -/
theorem State.releaseSlot_both {x y : Taking} {r q : DieRecord} (takingA : (s.chan k).slotA.taking = some x)
    (takingB : (s.chan k).slotB.taking = some y) (recordA : s.drt.records[x.idx]? = some r)
    (recordB : s.drt.records[y.idx]? = some q) :
    (s.releaseSlot k .a).releaseSlot k .b = ((s.withDu (s.du.withdraw fun e =>
      DEntry.isSlot k .a e || DEntry.isSlot k .b e)).withChans (s.chans.set k { s.chan k with
        slotA := (s.chan k).slotA.released (s.du.runs (DEntry.isSlot k .a))
        slotB := (s.chan k).slotB.released (s.du.runs (DEntry.isSlot k .b)) })).withDrt
          { s.drt with
            records := (s.drt.records.set x.idx { r with holder := none }).set y.idx { q with holder := none }
            marks := (s.drt.marks.setIfInBounds (x.idx / 64) true).setIfInBounds (y.idx / 64) true } := by
  have apart (e : DEntry) (own : DEntry.isSlot k .b e = true) : DEntry.isSlot k .a e = false := by
    obtain ⟨n, p, t, rfl⟩ := DEntry.isSlot_iff.mp own
    simp [DEntry.isSlot]
  obtain ⟨q', record, unheld⟩ : ∃ q', (s.drt.records.set x.idx { r with holder := none })[y.idx]? = some q' ∧
      { q' with holder := none } = { q with holder := none } := by
    by_cases same : x.idx = y.idx
    · cases recordA.symm.trans (same ▸ recordB)
      exact ⟨{ r with holder := none }, by
        rw [← same, List.getElem?_set_self (List.getElem?_eq_some_iff.mp recordA).1], rfl⟩
    · exact ⟨q, by rw [List.getElem?_set_ne same]; exact recordB, rfl⟩
  rw [State.releaseSlot_eq (l := .a) takingA recordA, State.releaseSlot_eq (l := .b) (x := y) (r := q')
    (by rw [State.chan_withDrt, State.chan_withChans, Four.get_set_same]; exact takingB) (by exact record), unheld]
  simp only [State.withDrt_du, State.withChans_du, State.withDu_du, DerivUnit.withdraw_withdraw,
    DerivUnit.runs_withdraw apart, State.chan_withDrt, State.chan_withChans, Four.get_set_same, State.withDrt_chans,
    State.withChans_chans, Four.set_set]
  rfl

end

/-- Settles O48. -/
theorem sitesAreEnabledAndDisabled : Obligations.SitesAreEnabledAndDisabled := by
  refine ⟨fun tag k s ready => ⟨?enable, fun cmd burn slotA slotB => ?empty, fun busy => ?busy,
      fun n big => ⟨?enableBig, ?disableBig⟩⟩,
    fun tag k l x r s v u ready cmd burn full others before after taking untaken record => ⟨fun calm => ?idle, ?one⟩,
    fun tag k x y r q s v u ready cmd burn full before after takingA takingB recordA recordB => ?both⟩
  case enable =>
    rw [exec_enableSite ready, enableSiteAct, siteOf_val]
    dsimp only
    rw [wordOfBool_not]
    exact congrArg _ ((State.supAnswer_taken (s := s) (kind := 0x28) (tag := tag) ready.free (by rfl) ..).trans rfl)
  case empty =>
    have none : ((s.taken 0x29 tag).chan k).slotsTaken = 0 := by
      rw [Channel.slotsTaken, show ((s.taken 0x29 tag).chan k).slotA = _ from slotA,
        show ((s.taken 0x29 tag).chan k).slotB = _ from slotB]
      rfl
    rw [exec_disableSite ready, disableSiteAct_free (by exact cmd) (by exact burn), none, State.releaseSlots, if_pos none]
    exact congrArg _ ((State.supAnswer_taken (s := s) (kind := 0x29) (tag := tag) ready.free (by rfl) ..).trans rfl)
  case busy =>
    rw [exec_disableSite ready, disableSiteAct, siteOf_val, ← State.supRefused ready]
    refine congrArg _ (if_pos ?_)
    exact busy.imp Option.isSome_iff_ne_none.mpr Option.isSome_iff_ne_none.mpr
  case enableBig =>
    rw [exec_enableSite ready, enableSiteAct, siteOf_big big, ← State.supRefused ready]
    rfl
  case disableBig =>
    rw [exec_disableSite ready, disableSiteAct, siteOf_big big, ← State.supRefused ready]
    rfl
  case idle =>
    subst before
    exact after.trans (State.drainFor_idle (by exact calm))
  all_goals
    have made : v = s.taken 0x29 tag := before
    rw [made] at after
    have sup : u.sup = (s.taken 0x29 tag).sup := by
      rw [after]
      exact State.drainFor_sup ..
    rw [exec_disableSite ready, disableSiteAct_free (by exact cmd) (by exact burn)]
  case one =>
    have one : ((s.taken 0x29 tag).chan k).slotsTaken = 1 := by
      cases l with
      | a =>
        have emptyB : (s.chan k).slotB.state = .empty := others .b SlotId.noConfusion
        rw [Channel.slotsTaken, if_neg (by exact full), if_pos (by exact emptyB)]
      | b =>
        have emptyA : (s.chan k).slotA.state = .empty := others .a SlotId.noConfusion
        rw [Channel.slotsTaken, if_pos (by exact emptyA), if_neg (by exact full)]
    rw [State.releaseSlots_taken (by rw [one]; decide), ← after, one, State.releaseSlot_only taking untaken record,
      State.supAnswer_after (s := s) (kind := 0x29) (tag := tag) (by exact sup)]
    exact ⟨_, rfl, Four.get_set_same .., rfl, rfl, Four.get_set_same .., fun j hj => ⟨Four.get_set_ne _ _ hj,
      Four.get_set_ne _ _ hj⟩, rfl, rfl⟩
  case both =>
    have two : ((s.taken 0x29 tag).chan k).slotsTaken = 2 := by
      rw [Channel.slotsTaken, if_neg (by exact full .a), if_neg (by exact full .b)]
    rw [State.releaseSlots_taken (by rw [two]; decide), ← after, two,
      State.releaseSlot_both takingA takingB recordA recordB,
      State.supAnswer_after (s := s) (kind := 0x29) (tag := tag) (by exact sup)]
    exact ⟨_, rfl, Four.get_set_same .., rfl, rfl, Four.get_set_same .., fun j hj => ⟨Four.get_set_ne _ _ hj,
      Four.get_set_ne _ _ hj⟩, rfl, rfl⟩

end Sys2Proof.Machine
end

section
/-!
PROOFS. RELEASE HOLD (O51): a lookup goes on in the same way whatever phase the PREPARE was held in.
-/

namespace Sys2Proof.Machine

/-! ### The phase of a PREPARE that is replaced or answered -/

section

variable {k : Site} {ph : PrepPhase} {s : State}

theorem State.setPhase_setPhase (k : Site) (a b : PrepPhase) (s : State) :
    (s.setPhase k a).setPhase k b = s.setPhase k b := by
  rw [State.setPhase, State.setPhase, State.setPhase, modSite_modSite]
  congr 1
  funext sl
  cases sl.cmd <;> simp

theorem SiteLink.answerCmd_phase (c : Word) (ws : List Word) (ph : PrepPhase) (sl : SiteLink) :
    SiteLink.answerCmd c ws { sl with cmd := sl.cmd.map fun p => { p with phase := ph } } = sl.answerCmd c ws := by
  obtain ⟨io, enabled, cmd, burn, aborts⟩ := sl
  cases cmd <;> rfl

theorem State.answerPrepare_setPhase (k : Site) (ph : PrepPhase) (c : Word) (ws : List Word) (s : State) :
    (s.setPhase k ph).answerPrepare k c ws = s.answerPrepare k c ws := by
  rw [State.setPhase, State.answerPrepare, State.answerPrepare, modSite_modSite]
  congr 1
  funext sl
  exact SiteLink.answerCmd_phase c ws ph sl

theorem State.queueAdvance_setPhase (k : Site) (ph : PrepPhase) (s : State) :
    (s.setPhase k ph).queueAdvance k = (s.queueAdvance k).setPhase k ph := by
  rw [State.queueAdvance_eq, State.queueAdvance_eq]
  rfl

theorem State.setExhausted_setPhase (k : Site) (ph : PrepPhase) (s : State) :
    (s.setPhase k ph).setExhausted = s.setExhausted.setPhase k ph := by
  have flag : (s.setPhase k ph).sa = s.sa := rfl
  unfold State.setExhausted
  dsimp only
  rw [flag]
  split <;> rfl

theorem State.prefetch_setPhase (k : Site) (ph : PrepPhase) (s : State) :
    (s.setPhase k ph).prefetch k = (s.prefetch k).setPhase k ph := by
  have due : (s.setPhase k ph).prefetchDue k = s.prefetchDue k := rfl
  have window : (s.setPhase k ph).windowAllows = s.windowAllows := rfl
  unfold State.prefetch
  rw [due, window]
  split
  · split
    · exact State.queueAdvance_setPhase k ph s
    · exact State.setExhausted_setPhase k ph s
  · rfl

/-- A draw does not depend on the phase. -/
theorem State.draw_setPhase (k : Site) (ph : PrepPhase) (s : State) :
    (s.setPhase k ph).draw k = ((s.draw k).1.setPhase k ph, (s.draw k).2) := by
  have taken (b : Block) (n : NextBlock) :
      (s.setPhase k ph).takeSerial k b n = (s.takeSerial k b n).setPhase k ph :=
    State.prefetch_setPhase k ph (s.drawnFrom k b n)
  have blocks : (s.setPhase k ph).sa = s.sa := rfl
  have window : (s.setPhase k ph).windowAllows = s.windowAllows := rfl
  unfold State.draw
  dsimp only
  rw [blocks, window]
  split
  · rw [taken]
  · split
    · rw [taken]
    · rfl
    · split
      · rfl
      · split
        · rw [State.queueAdvance_setPhase]
        · rw [State.setExhausted_setPhase]

theorem State.endClaimed_setPhase (i : Nat) (c : Code) :
    (s.setPhase k ph).endClaimed k i c = s.endClaimed k i c := by
  rw [State.endClaimed, State.answerPrepare_setPhase, State.endClaimed]

theorem State.endAborted_setPhase (i : Nat) (clear : Bool) :
    (s.setPhase k ph).endAborted k i clear = s.endAborted k i clear := by
  rw [State.endAborted, State.endClaimed_setPhase, State.answerPrepare_setPhase, State.endAborted]

theorem State.prepareAborted_setPhase : (s.setPhase k ph).prepareAborted k = s.prepareAborted k := by
  unfold State.prepareAborted
  rw [State.setPhase, State.modSite_site]
  cases h : (s.site k).cmd <;> rfl

theorem State.drawStep_setPhase (i : Nat) : (s.setPhase k ph).drawStep k i = s.drawStep k i := by
  have stopped : (s.setPhase k ph).fu = s.fu := rfl
  unfold State.drawStep
  rw [stopped, State.draw_setPhase, State.endClaimed_setPhase]
  obtain ⟨v, a⟩ := s.draw k
  cases a with
  | drawn n => dsimp only; rw [State.setPhase_setPhase]
  | waits =>
    dsimp only
    rw [State.prepareAborted_setPhase, State.endAborted_setPhase, State.setPhase_setPhase]
    rfl
  | exhausted => dsimp only; rw [State.endClaimed_setPhase]

theorem State.toSlot_setPhase (i : Nat) : (s.setPhase k ph).toSlot k i = s.toSlot k i := by
  rw [State.toSlot, State.setPhase_setPhase, State.toSlot]

theorem State.modRecord_setPhase (i : Nat) (f : DieRecord → DieRecord) :
    (s.setPhase k ph).modRecord i f = (s.modRecord i f).setPhase k ph := rfl

theorem State.claimReserved_setPhase (i : Nat) (r : DieRecord) :
    (s.setPhase k ph).claimReserved k i r = s.claimReserved k i r := by
  have free : (s.setPhase k ph).slotFree k = s.slotFree k := rfl
  unfold State.claimReserved
  simp only [free, State.modRecord_setPhase, State.drawStep_setPhase, State.toSlot_setPhase, State.answerPrepare_setPhase]

/-- A lookup does not depend on the phase its PREPARE was in. -/
theorem State.lookupAccess_setPhase {p : Pos} (known : ∀ i, s.drt.lookup p = some i → i < s.drt.records.length) :
    (s.setPhase k ph).lookupAccess k p = s.lookupAccess k p := by
  have free : (s.setPhase k ph).slotFree k = s.slotFree k := rfl
  have lc : (s.setPhase k ph).lc = s.lc := rfl
  have create (d : Table) : (s.setPhase k ph).withDrt d = (s.withDrt d).setPhase k ph := rfl
  have record (i : Nat) : (s.setPhase k ph).recordAt i = s.recordAt i := rfl
  unfold State.lookupAccess
  simp only [State.setPhase_drt, free, lc, create, record, State.modRecord_setPhase, State.drawStep_setPhase,
    State.toSlot_setPhase, State.answerPrepare_setPhase, State.claimReserved_setPhase]
  cases found : s.drt.lookup p with
  | none => rfl
  | some i =>
    have there : s.recordAt i = some (s.drt.records[i]'(known i found)) := List.getElem?_eq_getElem (known i found)
    simp only [there]

end

theorem exec_releaseHold {s : State} (ready : s.SupReady) (tag : Byte) (site : Word) :
    exec (.releaseHold tag site) s = .next (releaseHoldAct site (s.taken 0x2D tag)) :=
  congrArg _ ((State.live_powered ready.powered _).trans (State.supRequest_ready ready ..))

section

variable {k : Site} {q : PrepReq} {s : State}

theorem releaseHoldAct_free (free : ∀ q, (s.site k).cmd = some q → q.phase ≠ .heldPosition ∧ ∀ i n, q.phase ≠ .heldSerial i n) :
    releaseHoldAct (wordOf k.val) s = s.supAnswer 0 [0, 0, 0xFFFF] := by
  rw [releaseHoldAct, siteOf_val]
  dsimp only
  split
  · rfl
  · next q cmd =>
    obtain ⟨position, serial⟩ := free q cmd
    split
    · next phase => exact absurd phase position
    · next phase => exact absurd phase (serial _ _)
    all_goals rfl

theorem releaseHoldAct_position (cmd : (s.site k).cmd = some q) (phase : q.phase = .heldPosition) :
    releaseHoldAct (wordOf k.val) s =
      ((s.drainFor k false).lookupTaken k q.pos).supAnswer 0 [1, 1, posWord q.pos] := by
  rw [releaseHoldAct, siteOf_val]
  dsimp only
  rw [cmd]
  dsimp only
  rw [phase]
  rfl

theorem releaseHoldAct_serial {i : Nat} {n : Serial} (cmd : (s.site k).cmd = some q) (phase : q.phase = .heldSerial i n) :
    releaseHoldAct (wordOf k.val) s = ((s.drainFor k false).slotAccess k i).supAnswer 0 [1, 2, posWord q.pos] := by
  rw [releaseHoldAct, siteOf_val]
  dsimp only
  rw [cmd]
  dsimp only
  rw [phase]
  rfl

end

/-- Settles O51. -/
theorem holdsAreReleased : Obligations.HoldsAreReleased := by
  intro tag k s v u ready before after
  have made : v = s.taken 0x2D tag := before
  rw [exec_releaseHold ready]
  refine ⟨fun n big => ?range, fun free => ?free, fun calm => ?idle, fun q held cmd => ⟨fun phase known => ?position,
    fun i n l r phase alone record serial choice empty => ?serial⟩⟩
  case range =>
    rw [exec_releaseHold ready, releaseHoldAct, siteOf_big big, ← State.supRefused ready]
    rfl
  case free => rw [releaseHoldAct_free (by exact free), State.supRefused ready]
  case idle =>
    subst before
    exact after.trans (State.drainFor_idle (by exact calm))
  all_goals
    rw [made] at after
    obtain ⟨-, -, sup, -, powered, -⟩ := (State.took_drainFor k false (s.taken 0x2D tag)).fields
    rw [← after] at sup powered
  case position =>
    rw [releaseHoldAct_position (by exact held) phase, ← after]
    obtain ⟨-, -, kept, -⟩ := (State.took_lookupTaken u k q.pos).fields
    refine ⟨u.lookupTaken k q.pos, ?_, congrArg _ (State.supAnswer_after (kept.trans sup) ..)⟩
    refine (exec_prepareLookup (rest := u.port) (m := u.now) (by exact powered.trans ready.powered) (by rfl)).trans (congrArg _ ?_)
    refine (State.prepareAccess_lookup (q := { q with phase := .lookup }) ?_ rfl).trans ?_
    · exact congrArg SiteLink.cmd (Four.get_set_same ..)
    · have held : u.setPhase k .lookup = _ := State.setPhase_eq cmd .lookup
      rw [State.lookupTaken, State.lookupTaken, ← State.lookupAccess_setPhase (ph := .lookup) known, held]
      rfl
  case serial =>
    rw [releaseHoldAct_serial (by exact held) phase, ← after,
      State.slotAccess_eq (Channel.freeSlot_eq choice empty) record serial, State.supAnswer_after (by exact sup)]
    exact ⟨_, rfl, (State.modSite_site ..).trans (SiteLink.answerCmd_alone (by exact cmd) (by exact alone) ..),
      Four.get_set_same .., rfl, rfl, rfl, fun j hj => ⟨State.answerPrepare_other hj .., Four.get_set_ne _ _ hj⟩, rfl⟩

end Sys2Proof.Machine
end

section
/-!
PROOFS. The supervisor's reads of the die record table: O52, O53.
-/

namespace Sys2Proof.Machine

/-! ### READ SUMMARY (R62) -/

theorem exec_readSummary {s : State} (powered : s.powered = true) (room : s.full .supervisor = false)
    (free : s.sup.lane = none) (tag : Byte) :
    exec (.readSummary tag) s = .next (readSummaryAct (s.taken 0x30 tag)) :=
  congrArg _ ((State.live_powered powered _).trans (State.supRequest_inStop room free rfl ..))

/-- Settles O53: what waits is taken first and leaves lot, profile and supervisor link. -/
theorem summaryIsAnswered : Obligations.SummaryIsAnswered := by
  intro tag s powered room free
  refine ⟨fun port => ⟨0 :: (s.taken 0x30 tag).summaryWords, ?idle⟩,
    readSummaryAct (s.taken 0x30 tag), exec_readSummary powered room free tag, ?_⟩
  case idle =>
    rw [exec_readSummary powered room free, readSummaryAct, State.drainAll_nil (s := s.taken 0x30 tag) port]
    exact congrArg _ (State.supAnswer_taken (t := s.taken 0x30 tag) free rfl ..)
  obtain ⟨lc, ps, sup, -, -, -, -, -, pending⟩ := (State.took_drainAll (s.taken 0x30 tag)).fields
  have answered := State.supAnswer_after (s := s) sup Code.done.word (s.taken 0x30 tag).drainAll.summaryWords
  refine ⟨State.drainAll_port _, ?lane, ?io, lc, ps, pending⟩
  case lane => exact congrArg (fun t : State => t.sup.lane) answered
  case io =>
    refine (congrArg (fun t : State => t.sup.io) answered).trans ?_
    rw [State.summaryWords, lc]
    rfl

/-! ### The packed record (R166) -/

theorem extract_wordOf (n i l : Nat) : ((wordOf n).extractLsb' i l).toNat = n % 65536 / 2 ^ i % 2 ^ l := by
  rw [wordOf, BitVec.extractLsb'_toNat, BitVec.toNat_ofNat, Nat.shiftRight_eq_div_pow]

theorem bit_wordOf {n i : Nat} {b : Bool} (bit : n % 65536 / 2 ^ i % 2 = b.toNat) : (wordOf n).getLsbD i = b := by
  rw [wordOf, BitVec.getLsbD, BitVec.toNat_ofNat, Nat.testBit_eq_decide_div_mod_eq, bit]
  cases b <;> rfl

theorem outcomeCode_lt (o : Option LastOutcome) : outcomeCode o < 256 := by
  rcases o with _ | e | _
  · decide
  · cases e <;> decide
  · decide

theorem RecState.code_le (st : RecState) : st.code ≤ 8 := by cases st <;> decide

theorem holderSlotCode_le (l : Option SlotId) : holderSlotCode l ≤ 2 := by
  rcases l with _ | _ | _ <;> decide

/-- The holder's site, as the packed record carries it. -/
def Holder.siteField (h : Option Holder) : Nat := (h.map (·.site.val)).getD 0

/-- The holder's slot, as the packed record carries it. -/
def Holder.slotField (h : Option Holder) : Nat := (h.map (holderSlotCode ·.slot)).getD 0

theorem Holder.siteField_lt (h : Option Holder) : Holder.siteField h < 4 := by
  rcases h with _ | h
  · decide
  · exact h.site.isLt

theorem Holder.slotField_le (h : Option Holder) : Holder.slotField h ≤ 2 := by
  rcases h with _ | h
  · decide
  · exact holderSlotCode_le h.slot

section

variable {r : DieRecord}

/-- The record's position word: column and row, with serial present and recovered. -/
def DieRecord.placeField (r : DieRecord) : Nat :=
  r.serial.isSome.toNat * 32768 + r.pos.col.toNat % 128 * 256 + r.recovered.toNat * 128 + r.pos.row.toNat % 128

/-- The record's state word. -/
def DieRecord.stateField (r : DieRecord) : Nat :=
  r.state.code * 4096 + r.attempts % 4 * 1024 + r.exhausted.toNat * 512 + r.lastSite.isSome.toNat * 256 +
    (r.lastSite.getD 0).val * 64 + r.holder.isSome.toNat * 32 + Holder.siteField r.holder * 8 +
    Holder.slotField r.holder * 2 + r.bits / 256 % 2

theorem DieRecord.packed_eq (r : DieRecord) : r.packed = [hiWord (r.serial.getD 0), loWord (r.serial.getD 0),
    wordOf r.placeField, wordOf r.stateField, wordOf r.pulses, wordOf (r.bits % 256 * 256 + outcomeCode r.lastOutcome),
    hiWord r.stamp, loWord r.stamp] := rfl

theorem DieRecord.packed_length (r : DieRecord) : r.packed.length = 8 := by
  rw [DieRecord.packed_eq]
  rfl

theorem DieRecord.place_read (col : r.pos.col.toNat ≤ 127) (row : r.pos.row.toNat ≤ 127) :
    (wordOf r.placeField).getLsbD 15 = r.serial.isSome ∧
    ((wordOf r.placeField).extractLsb' 8 7).toNat = r.pos.col.toNat ∧
    (wordOf r.placeField).getLsbD 7 = r.recovered ∧
    ((wordOf r.placeField).extractLsb' 0 7).toNat = r.pos.row.toNat := by
  have hs := r.serial.isSome.toNat_le
  have hr := r.recovered.toNat_le
  refine ⟨bit_wordOf ?_, (extract_wordOf ..).trans ?_, bit_wordOf ?_, (extract_wordOf ..).trans ?_⟩ <;>
    (rw [DieRecord.placeField]; omega)

theorem DieRecord.state_read (attempts : r.attempts ≤ 3) (bits : r.bits ≤ 353) :
    ((wordOf r.stateField).extractLsb' 12 4).toNat = r.state.code ∧
    ((wordOf r.stateField).extractLsb' 10 2).toNat = r.attempts ∧
    (wordOf r.stateField).getLsbD 9 = r.exhausted ∧
    (wordOf r.stateField).getLsbD 8 = r.lastSite.isSome ∧
    ((wordOf r.stateField).extractLsb' 6 2).toNat = (r.lastSite.getD 0).val ∧
    (wordOf r.stateField).getLsbD 5 = r.holder.isSome ∧
    ((wordOf r.stateField).extractLsb' 3 2).toNat = Holder.siteField r.holder ∧
    ((wordOf r.stateField).extractLsb' 1 2).toNat = Holder.slotField r.holder ∧
    (wordOf r.stateField).getLsbD 0 = decide (256 ≤ r.bits) := by
  have code := r.state.code_le
  have exhausted := r.exhausted.toNat_le
  have last := r.lastSite.isSome.toNat_le
  have lastSite := (r.lastSite.getD 0).isLt
  have held := r.holder.isSome.toNat_le
  have site := Holder.siteField_lt r.holder
  have slot := Holder.slotField_le r.holder
  have high : (decide (256 ≤ r.bits)).toNat = r.bits / 256 % 2 := by
    by_cases h : 256 ≤ r.bits
    · rw [decide_eq_true h, Bool.toNat_true]
      omega
    · rw [decide_eq_false h, Bool.toNat_false]
      omega
  refine ⟨(extract_wordOf ..).trans ?_, (extract_wordOf ..).trans ?_, bit_wordOf ?_, bit_wordOf ?_,
    (extract_wordOf ..).trans ?_, bit_wordOf ?_, (extract_wordOf ..).trans ?_, (extract_wordOf ..).trans ?_,
    bit_wordOf ?_⟩ <;> (rw [DieRecord.stateField]; omega)

theorem DieRecord.outcome_read (r : DieRecord) :
    (hiByte (wordOf (r.bits % 256 * 256 + outcomeCode r.lastOutcome))).toNat = r.bits % 256 ∧
    (loByte (wordOf (r.bits % 256 * 256 + outcomeCode r.lastOutcome))).toNat = outcomeCode r.lastOutcome := by
  have low := outcomeCode_lt r.lastOutcome
  refine ⟨(extract_wordOf ..).trans ?_, (extract_wordOf ..).trans ?_⟩ <;> omega

end

/-! ### The copies of READ RECORDS (R61) -/

section

variable {s : State} {q : SupReqState}

theorem exec_recordCopy (powered : s.powered = true) : exec .recordCopy s = .next s.copyRecord :=
  congrArg _ (State.live_powered powered _)

/-- A site-side access that waits keeps the copy back (R44). -/
theorem State.copyRecord_kept (port : s.port ≠ []) : s.copyRecord = s := by
  rw [State.copyRecord]
  split
  · next nil => exact absurd nil port
  · rfl

theorem State.copyRecord_records (lane : s.sup.lane = some q) {first left : Nat} {ws : List Word}
    (task : q.task = .readRecords first left ws) (port : s.port = []) : s.copyRecord = s.copyRecords first left ws := by
  rw [State.copyRecord, lane, port]
  dsimp only
  rw [task]

theorem State.copyRecord_first (lane : s.sup.lane = some q) {ws : List Word}
    (task : q.task = .readChanged none ws) (port : s.port = []) : s.copyRecord = s.copyFirst := by
  rw [State.copyRecord, lane, port]
  dsimp only
  rw [task]

theorem State.copyRecord_page (lane : s.sup.lane = some q) {p : Nat} {ws : List Word}
    (task : q.task = .readChanged (some p) ws) (port : s.port = []) : s.copyRecord = s.copyPage p ws := by
  rw [State.copyRecord, lane, port]
  dsimp only
  rw [task]

/-- The answer on a lane that is held. -/
theorem State.supAnswer_held (lane : s.sup.lane = some q) (code : Word) (ws : List Word) :
    s.supAnswer code ws = s.withSup { lane := none, io := { s.sup.io with
      replies := s.sup.io.replies ++ [⟨q.kind, q.tag, code :: ws⟩] } } := by
  rw [State.supAnswer, SupLink.answer, lane]
  rfl

/-- A held lane goes on with another task. -/
theorem State.supTask_held (lane : s.sup.lane = some q) (t : SupTask) :
    s.supTask t = s.withSup { s.sup with lane := some { q with task := t } } := by
  rw [State.supTask, lane]
  rfl

variable {first left : Nat} {ws : List Word} {r : DieRecord}

/-- A copy at or past the record count forms the reply with what has been copied (R61). -/
theorem State.copyRecords_past (past : s.drt.records.length ≤ first + ws.length / 8) :
    s.copyRecords first left ws = s.supAnswer 0 (recordsReply first ws) := by
  have absent : s.recordAt (first + ws.length / 8) = none := List.getElem?_eq_none past
  rw [State.copyRecords]
  dsimp only
  rw [absent]
  rfl

/-- A copy of a record: the last forms the reply, another goes on. -/
theorem State.copyRecords_copied (record : s.drt.records[first + ws.length / 8]? = some r) :
    s.copyRecords first left ws =
      if left ≤ 1 ∨ s.drt.records.length ≤ first + ws.length / 8 + 1 then
        s.supAnswer 0 (recordsReply first (ws ++ r.packed))
      else s.supTask (.readRecords first (left - 1) (ws ++ r.packed)) := by
  have present : s.recordAt (first + ws.length / 8) = some r := record
  rw [State.copyRecords]
  dsimp only
  rw [present]
  rfl

/-- A copy of a page's record: the last forms the reply, another goes on (R60). -/
theorem State.copyPage_copied {p : Nat} (record : s.drt.records[64 * p + ws.length / 8]? = some r) :
    s.copyPage p ws =
      if ws.length / 8 = 63 ∨ s.drt.records.length ≤ 64 * p + ws.length / 8 + 1 then
        s.supAnswer 0 (s.changedReply p (ws ++ r.packed))
      else s.supTask (.readChanged (some p) (ws ++ r.packed)) := by
  have present : s.recordAt (64 * p + ws.length / 8) = some r := record
  rw [State.copyPage]
  dsimp only
  rw [present]
  rfl

end

/-! ### The marked pages (R60) -/

section

variable {d : Table}

theorem Table.markedPage_none (clear : ∀ p : Nat, p < 128 → d.marks[p]? = some false) : d.markedPage = none := by
  rw [Table.markedPage, List.find?_range_eq_none]
  intro p hp
  rw [clear p hp]
  rfl

theorem Table.markedPage_lowest {p : Nat} (set : d.marks[p]? = some true)
    (clear : ∀ q, q < p → d.marks[q]? = some false) : d.markedPage = some p := by
  have bound : p < 128 := by
    by_contra high
    rw [Vector.getElem?_eq_none (Nat.le_of_not_lt high)] at set
    cases set
  rw [Table.markedPage, List.find?_range_eq_some]
  refine ⟨by rw [set]; rfl, List.mem_range.mpr bound, fun q hq => ?_⟩
  rw [clear q hq]
  rfl

/-- Some mark is set. -/
theorem Table.anyMark_iff : d.anyMark = true ↔ ∃ p : Fin 128, d.marks[p.val]? = some true := by
  rw [Table.anyMark, Table.markedPage, List.find?_isSome]
  constructor
  · rintro ⟨p, mem, set⟩
    have bound := List.mem_range.mp mem
    refine ⟨⟨p, bound⟩, ?_⟩
    rw [Vector.getElem?_eq_getElem bound] at set ⊢
    exact congrArg some set
  · rintro ⟨p, set⟩
    exact ⟨p.val, List.mem_range.mpr p.isLt, by rw [set]; rfl⟩

/-- The word that tells whether a mark is still set. -/
theorem Table.anyMark_word {P : Prop} [Decidable P] (iff : d.anyMark = true ↔ P) :
    wordOfBool d.anyMark = if P then 1 else 0 := by
  rw [wordOfBool]
  exact if_congr iff rfl rfl

/-- A mark that is still set when page `p`'s has been cleared. -/
theorem Table.anyMark_cleared (p : Nat) :
    ({ d with marks := d.marks.setIfInBounds p false } : Table).anyMark = true ↔
      ∃ q : Fin 128, q.val ≠ p ∧ d.marks[q.val]? = some true := by
  rw [Table.anyMark_iff]
  refine exists_congr fun q => ?_
  dsimp only
  rw [Vector.getElem?_setIfInBounds]
  by_cases same : p = q.val
  · subst same
    simp
  · rw [if_neg same]
    exact ⟨fun h => ⟨Ne.symm same, h⟩, And.right⟩

end

/-! ### READ RECORDS and READ CHANGED -/

section

variable {s : State}

theorem exec_readRecords (powered : s.powered = true) (room : s.full .supervisor = false)
    (free : s.sup.lane = none) (tag : Byte) (first count : Word) :
    exec (.readRecords tag first count) s = .next (readRecordsAct first count (s.taken 0x2E tag)) :=
  congrArg _ ((State.live_powered powered _).trans (State.supRequest_inStop room free rfl ..))

theorem exec_readChanged (powered : s.powered = true) (room : s.full .supervisor = false)
    (free : s.sup.lane = none) (tag : Byte) :
    exec (.readChanged tag) s = .next (readChangedAct (s.taken 0x2F tag)) :=
  congrArg _ ((State.live_powered powered _).trans (State.supRequest_inStop room free rfl ..))

end

/-- READ RECORDS at its arrival (R61). -/
theorem readRecords_arrives {tag : Byte} {first count : Word} {s : State} (powered : s.powered = true)
    (room : s.full .supervisor = false) (free : s.sup.lane = none) :
    (8191 < first.toNat ∨ count = 0 ∨ 64 < count.toNat →
      exec (.readRecords tag first count) s = .next (s.reply .supervisor ⟨0x2E, tag, [43]⟩)) ∧
    (first.toNat ≤ 8191 → count ≠ 0 → count.toNat ≤ 64 →
      (s.port = [] → s.drt.records.length ≤ first.toNat →
        exec (.readRecords tag first count) s = .next (s.reply .supervisor ⟨0x2E, tag, [0, first, 0]⟩)) ∧
      (s.port ≠ [] ∨ first.toNat < s.drt.records.length →
        exec (.readRecords tag first count) s = .next { s with
          sup := { s.sup with
            lane := some { kind := 0x2E, tag := tag, task := .readRecords first.toNat count.toNat [] } } })) := by
  have zero : count.toNat = 0 ↔ count = 0 := BitVec.toNat_inj (y := 0)
  rw [exec_readRecords powered room free, readRecordsAct]
  refine ⟨fun bad => ?_, fun low some64 few => ?_⟩
  · rw [if_pos (bad.imp_right (Or.imp_left zero.mpr))]
    exact congrArg _ (State.supAnswer_taken (t := s.taken 0x2E tag) free rfl ..)
  · rw [if_neg (by
      rintro (h | h | h)
      exacts [absurd low (Nat.not_le.mpr h), some64 (zero.mp h), absurd few (Nat.not_le.mpr h)])]
    refine ⟨fun port past => ?_, fun waits => ?_⟩
    · rw [if_pos (by exact ⟨port, past⟩), recordsReply, wordOf, BitVec.ofNat_toNat, BitVec.setWidth_eq]
      exact congrArg _ (State.supAnswer_taken (t := s.taken 0x2E tag) free rfl ..)
    · rw [if_neg (by
        rintro ⟨port, past⟩
        exact waits.elim (fun h => h port) (fun h => absurd past (Nat.not_le.mpr h)))]
      rfl

/-- A copy for READ RECORDS of a record that is there (R61). -/
theorem readRecords_copies {tag : Byte} {first left : Nat} {ws : List Word} {r : DieRecord} {s : State}
    (powered : s.powered = true)
    (lane : s.sup.lane = some { kind := 0x2E, tag := tag, task := .readRecords first left ws })
    (record : s.drt.records[first + ws.length / 8]? = some r) :
    (s.port = [] → 1 < left → first + ws.length / 8 + 1 < s.drt.records.length →
      exec .recordCopy s = .next { s with
        sup := { s.sup with
          lane := some { kind := 0x2E, tag := tag, task := .readRecords first (left - 1) (ws ++ r.packed) } } }) ∧
    (s.port = [] → left = 1 ∨ s.drt.records.length = first + ws.length / 8 + 1 →
      exec .recordCopy s = .next { s with
        sup := { lane := none, io := { s.sup.io with replies := s.sup.io.replies ++
          [⟨0x2E, tag, [0, wordOf first, wordOf ((ws ++ r.packed).length / 8)] ++ (ws ++ r.packed)⟩] } } }) ∧
    (s.port ≠ [] → exec .recordCopy s = .next s) := by
  rw [exec_recordCopy powered]
  refine ⟨fun port more further => ?_, fun port last => ?_, fun port => congrArg _ (State.copyRecord_kept port)⟩
  · rw [State.copyRecord_records lane rfl port, State.copyRecords_copied record, if_neg (by omega),
      State.supTask_held lane]
    rfl
  · rw [State.copyRecord_records lane rfl port, State.copyRecords_copied record, if_pos (by omega),
      State.supAnswer_held lane]
    rfl

/-- The first copy for READ CHANGED takes the lowest marked page (R60). -/
theorem readChanged_first {tag : Byte} {p : Nat} {r : DieRecord} {s : State} (powered : s.powered = true)
    (port : s.port = []) {ws : List Word}
    (lane : s.sup.lane = some { kind := 0x2F, tag := tag, task := .readChanged none ws })
    (set : s.drt.marks[p]? = some true) (clear : ∀ q, q < p → s.drt.marks[q]? = some false)
    (record : s.drt.records[64 * p]? = some r) :
    (64 * p + 1 < s.drt.records.length →
      exec .recordCopy s = .next { s with
        drt := { s.drt with marks := s.drt.marks.setIfInBounds p false }
        sup := { s.sup with lane := some { kind := 0x2F, tag := tag, task := .readChanged (some p) r.packed } } }) ∧
    (s.drt.records.length = 64 * p + 1 →
      exec .recordCopy s = .next { s with
        drt := { s.drt with marks := s.drt.marks.setIfInBounds p false }
        sup := { lane := none, io := { s.sup.io with replies := s.sup.io.replies ++
          [⟨0x2F, tag, [0, wordOf p, 1, if ∃ q : Fin 128, q.val ≠ p ∧ s.drt.marks[q.val]? = some true then 1 else 0] ++
            r.packed⟩] } } }) := by
  rw [exec_recordCopy powered, State.copyRecord_first lane rfl port, State.copyFirst, Table.markedPage_lowest set clear]
  dsimp only
  rw [State.copyPage_copied (s := s.withDrt { s.drt with marks := s.drt.marks.setIfInBounds p false })
    (p := p) (ws := []) (r := r) (by exact record)]
  have left := Table.anyMark_word (Table.anyMark_cleared (d := s.drt) p)
  refine ⟨fun further => ?_, fun last => ?_⟩
  · rw [if_neg (by
      rintro (h | h)
      · cases h
      · exact absurd further (Nat.not_lt.mpr h)), State.supTask_held (by exact lane)]
    rfl
  · rw [if_pos (.inr (by exact last.le)), State.supAnswer_held (by exact lane), State.changedReply, ← left,
      List.nil_append, r.packed_length]
    rfl

/-- A later copy for READ CHANGED (R60). -/
theorem readChanged_later {tag : Byte} {p : Nat} {r : DieRecord} {s : State} (powered : s.powered = true)
    (port : s.port = []) {ws : List Word}
    (lane : s.sup.lane = some { kind := 0x2F, tag := tag, task := .readChanged (some p) ws })
    (record : s.drt.records[64 * p + ws.length / 8]? = some r) :
    (ws.length / 8 ≠ 63 → 64 * p + ws.length / 8 + 1 < s.drt.records.length →
      exec .recordCopy s = .next { s with
        sup := { s.sup with
          lane := some { kind := 0x2F, tag := tag, task := .readChanged (some p) (ws ++ r.packed) } } }) ∧
    (ws.length / 8 = 63 ∨ s.drt.records.length = 64 * p + ws.length / 8 + 1 →
      exec .recordCopy s = .next { s with
        sup := { lane := none, io := { s.sup.io with replies := s.sup.io.replies ++
          [⟨0x2F, tag, [0, wordOf p, wordOf ((ws ++ r.packed).length / 8),
            if ∃ q : Fin 128, s.drt.marks[q.val]? = some true then 1 else 0] ++ (ws ++ r.packed)⟩] } } }) := by
  rw [exec_recordCopy powered, State.copyRecord_page lane rfl port, State.copyPage_copied record]
  refine ⟨fun more further => ?_, fun last => ?_⟩
  · rw [if_neg (by omega), State.supTask_held lane]
    rfl
  · rw [if_pos (by omega), State.supAnswer_held lane, State.changedReply, Table.anyMark_word Table.anyMark_iff]
    rfl

/-- Settles O52. -/
theorem recordsAreCopied : Obligations.RecordsAreCopied := by
  refine ⟨⟨fun tag first count s powered room free => readRecords_arrives powered room free,
    fun tag first left ws s powered port lane past => ?past,
    fun tag first left ws r s powered lane record => readRecords_copies powered lane record⟩,
    fun tag s powered room free => ⟨fun clear => ?unmarked, fun ⟨p, set⟩ => ?marked⟩,
    fun r w attempts bits pulses col row => ?packed,
    fun tag p r s powered port => ⟨fun ws => readChanged_first powered port, fun ws => readChanged_later powered port⟩⟩
  case past =>
    rw [exec_recordCopy powered, State.copyRecord_records lane rfl port, State.copyRecords_past past,
      State.supAnswer_held lane]
    rfl
  case unmarked =>
    rw [exec_readChanged powered room free, readChangedAct, Table.anyMark,
      Table.markedPage_none (d := (s.taken 0x2F tag).drt) clear]
    exact congrArg _ (State.supAnswer_taken (t := s.taken 0x2F tag) free rfl ..)
  case marked =>
    have bound : p < 128 := by
      by_contra high
      rw [Vector.getElem?_eq_none (Nat.le_of_not_lt high)] at set
      cases set
    have any : (s.taken 0x2F tag).drt.anyMark = true := Table.anyMark_iff.mpr ⟨⟨p, bound⟩, set⟩
    rw [exec_readChanged powered room free, readChangedAct, if_pos any]
    rfl
  case packed =>
    obtain ⟨code, att, exh, last, lastSite, held, site, slot, high⟩ := DieRecord.state_read attempts bits
    obtain ⟨hiBits, outcome⟩ := r.outcome_read
    rw [DieRecord.packed_eq]
    refine ⟨rfl, ?_, ?_, ?_, ?_, ?_, ?_, ?_, ?_⟩ <;> rintro ⟨⟩
    · rfl
    · rfl
    · exact DieRecord.place_read col row
    · refine ⟨?_, att, exh, last, lastSite, held, site.trans ?_, slot.trans ?_, high⟩
      · rw [code]
        cases r.state <;> decide
      · cases r.holder <;> rfl
      · rcases r.holder with _ | ⟨k, _ | _ | _⟩ <;> rfl
    · exact (BitVec.toNat_ofNat ..).trans (Nat.mod_eq_of_lt (by omega))
    · refine ⟨hiBits, outcome.trans ?_⟩
      rcases r.lastOutcome with _ | e | _ <;> rfl
    · rfl
    · rfl

end Sys2Proof.Machine
end

section
/-!
PROOFS. What ABORT and RESET SITE do to the work of a site (R160, R173), and RESET SITE with its sweep: O49.
-/

namespace Sys2Proof.Machine

/-! ### The command lane -/

/-- ABORTs that wait for the BURN too go on waiting when the PREPARE is answered. -/
theorem SiteLink.answerCmd_behind {sl : SiteLink} {q : PrepReq} (cmd : sl.cmd = some q)
    (wait : ∀ a ∈ sl.aborts, a.waitsBurn = true) (code : Word) (ws : List Word) :
    sl.answerCmd code ws = { sl with
      cmd := none
      aborts := sl.aborts.map fun a => { a with waitsCmd := false }
      io := { sl.io with replies := sl.io.replies ++ [⟨0x01, q.tag, code :: ws⟩] } } := by
  unfold SiteLink.answerCmd
  rw [cmd]
  dsimp only
  rw [SiteLink.settleAborts_waiting]
  · rfl
  · intro a ha
    obtain ⟨a', mem, rfl⟩ := List.mem_map.mp ha
    simp [AbortWait.ready, wait a' mem]

section

variable {k : Site} {q : PrepReq} {clear : Bool} {s : State}

theorem State.endCmdLane_none (cmd : (s.site k).cmd = none) : s.endCmdLane k clear = s := by
  rw [State.endCmdLane, cmd]

/-- A PREPARE in its binding or slot access is let through it (R160). -/
theorem State.endCmdLane_through (cmd : (s.site k).cmd = some q)
    (access : (∃ i m, q.phase = .binding i m) ∨ ∃ i, q.phase = .slotTaking i) : s.endCmdLane k clear = s := by
  rw [State.endCmdLane, cmd]
  dsimp only
  rcases access with ⟨i, m, phase⟩ | ⟨i, phase⟩ <;> rw [phase]

/-- A PREPARE in its lookup is marked (R160). -/
theorem State.endCmdLane_lookup (cmd : (s.site k).cmd = some q) (phase : q.phase = .lookup) :
    s.endCmdLane k clear = s.withSites (s.sites.set k { s.site k with cmd := some { q with aborted := true } }) := by
  rw [State.endCmdLane, cmd]
  dsimp only
  rw [phase]
  exact State.modSite_eq ..

/-- A PREPARE held by a position watch has claimed nothing (R90). -/
theorem State.endCmdLane_heldPosition (cmd : (s.site k).cmd = some q) (phase : q.phase = .heldPosition) :
    s.endCmdLane k clear = s.answerPrepare k 89 [] := by
  rw [State.endCmdLane, cmd]
  dsimp only
  rw [phase]
  rfl

/-- A PREPARE that waits for its block, or is held by a serial watch, has claimed a record (R52, R90). -/
theorem State.endCmdLane_claimed {i : Nat} (cmd : (s.site k).cmd = some q)
    (phase : q.phase = .waitBlock i ∨ ∃ n, q.phase = .heldSerial i n) :
    s.endCmdLane k clear = s.endAborted k i clear := by
  rw [State.endCmdLane, cmd]
  dsimp only
  rcases phase with phase | ⟨n, phase⟩ <;> rw [phase]

/-- RESET SITE answers a PREPARE that waits for its block or is held, and leaves its claim to the sweep (R65, R173). -/
theorem State.endCmdLane_held (cmd : (s.site k).cmd = some q)
    (phase : q.phase = .heldPosition ∨ ∃ i, q.phase = .waitBlock i ∨ ∃ m, q.phase = .heldSerial i m) :
    s.endCmdLane k false = s.answerPrepare k 89 [] := by
  rcases phase with phase | ⟨i, phase⟩
  · exact State.endCmdLane_heldPosition cmd phase
  · exact State.endCmdLane_claimed cmd phase

end

/-! ### The burn lane -/

section

variable {k : Site} {b : BurnReq} {l : SlotId} {x : Taking} {e : Ending} {s : State}

theorem State.endBurnLane_none (burn : (s.site k).burn = none) : s.endBurnLane k = s := by
  rw [State.endBurnLane, burn]

theorem State.endBurnLane_waitsCal (burn : (s.site k).burn = some b) (waits : b.waitsCal = true) :
    s.endBurnLane k = s.answerBurn k 89 [] := by
  rw [State.endBurnLane, burn]
  exact if_pos waits

theorem State.endBurnLane_burns (burn : (s.site k).burn = some b) (goes : b.waitsCal = false) :
    s.endBurnLane k = s.interruptBurn k .aborted := by
  rw [State.endBurnLane, burn]
  exact if_neg (by simp [goes])

theorem State.fixEnding_eq (k : Site) (e : Ending) (s : State) : s.fixEnding k e =
    s.withChans (s.chans.set k { s.chan k with ending := some ((s.chan k).ending.getD e) }) := State.modChan_eq ..

/-- A pulse or measurement in progress runs out under the fixed ending (R121, R122, R124). -/
theorem State.interruptBurn_runsOut (runs : (s.chan k).runsOut = true) : s.interruptBurn k e = s.fixEnding k e := by
  simp only [Channel.runsOut, Channel.pulsing, Bool.or_eq_true, Bool.and_eq_true, beq_iff_eq, Bool.not_eq_true'] at runs
  unfold State.interruptBurn
  dsimp only
  rcases runs with (state | ⟨state, reads⟩) | ⟨state | state, busy⟩
  · rw [state]
  · rw [state, reads]
    rfl
  · rw [state]
    exact if_pos (Bool.or_eq_true _ _ ▸ busy)
  · rw [state]
    exact if_pos (Bool.or_eq_true _ _ ▸ busy)

/-- Between a measurement and the next pulse, and in the two waits, the burn ends at once (R112, R121, R122). -/
theorem State.interruptBurn_endsAtOnce (ends : (s.chan k).endsAtOnce = true) :
    s.interruptBurn k e = s.finishBurn k e false := by
  simp only [Channel.endsAtOnce, Channel.pulsing, Bool.or_eq_true, Bool.and_eq_true, beq_iff_eq, Bool.not_eq_true']
    at ends
  unfold State.interruptBurn
  dsimp only
  rcases ends with (state | ⟨state, waits⟩) | ⟨⟨state | state, driving⟩, measuring⟩
  · rw [state]
  · rw [state]
    exact if_pos waits
  · rw [state]
    exact if_neg (by simp [driving, measuring])
  · rw [state]
    exact if_neg (by simp [driving, measuring])

/-- A burn before its blank check ends without a write (R105, R121). -/
theorem State.interruptBurn_before (state : (s.chan k).state = .waiting ∨ (s.chan k).state = .qualifying) :
    s.interruptBurn k e = s.finishBurn k e false := by
  unfold State.interruptBurn
  dsimp only
  rcases state with state | state <;> rw [state]

theorem State.interruptBurn_idle (state : (s.chan k).state ∈ [ChanState.uncalibrated, .calibrating, .idle, .halted]) :
    s.interruptBurn k e = s := by
  simp only [List.mem_cons, List.not_mem_nil, or_false] at state
  unfold State.interruptBurn
  dsimp only
  rcases state with state | state | state | state <;> rw [state]

theorem Channel.past_of_endsAtOnce {c : Channel} (ends : c.endsAtOnce = true) : c.state.past = true := by
  simp only [Channel.endsAtOnce, Channel.pulsing, Bool.or_eq_true, Bool.and_eq_true, beq_iff_eq] at ends
  rcases ends with (state | ⟨state, -⟩) | ⟨⟨state | state, -⟩, -⟩ <;> rw [state] <;> rfl

/-- The burn lane under an ABORT or a RESET SITE, whose burn runs out. -/
theorem State.endBurnLane_runsOut (burn : (s.site k).burn = some b) (goes : b.waitsCal = false)
    (runs : (s.chan k).runsOut = true) : s.endBurnLane k =
      s.withChans (s.chans.set k { s.chan k with ending := some ((s.chan k).ending.getD .aborted) }) := by
  rw [State.endBurnLane_burns burn goes, State.interruptBurn_runsOut runs, State.fixEnding_eq]

/-- The burn lane under an ABORT or a RESET SITE, whose burn ends before its blank check (R105, R121). -/
theorem State.endBurnLane_before {r : DieRecord} (burn : (s.site k).burn = some b) (goes : b.waitsCal = false)
    (state : (s.chan k).state = .waiting ∨ (s.chan k).state = .qualifying) (burning : (s.chan k).burning = some l)
    (taking : ((s.chan k).slot l).taking = some x) (record : s.drt.records[x.idx]? = some r) :
    s.endBurnLane k = (s.withChans (s.chans.set k ((s.chan k).unburned l .aborted))).answerBurn k 89
      ((s.chan k).unwrittenWords x r 0) := by
  have before : (s.chan k).state.past = false := by rcases state with h | h <;> rw [h] <;> rfl
  rw [State.endBurnLane_burns burn goes, State.interruptBurn_before state,
    State.finishBurn_unwritten burning taking before record (by decide), State.reportEnding_fixed (.inl rfl)]
  rfl

/-- The burn lane under an ABORT or a RESET SITE, whose burn ends at once (R121). -/
theorem State.endBurnLane_endsAtOnce (burn : (s.site k).burn = some b) (goes : b.waitsCal = false)
    (ends : (s.chan k).endsAtOnce = true) (burning : (s.chan k).burning = some l)
    (taking : ((s.chan k).slot l).taking = some x) :
    ∃ t, s.endBurnLane k = t ∧ Channel.EndedBy l x .aborted false (s.chan k) (t.chan k) ∧
      State.EndsAt k .ending s t ∧ (∀ j, j ≠ k → t.chan j = s.chan j) ∧
      { t with chans := s.chans, port := s.port, du := s.du } = s := by
  obtain ⟨t, eq, ended, ending, fu, others, frame⟩ := State.finishBurn_written_same (k := k) (e := .aborted)
    (halt := false) s burning taking (Channel.past_of_endsAtOnce ends)
  rw [State.withChans_self] at eq
  rw [State.reportEnding_fixed (.inl rfl)] at fu
  have unfaulted : t.fu = s.fu := fu
  refine ⟨t, ?_, ended, ending, others, ?_⟩
  · rw [State.endBurnLane_burns burn goes, State.interruptBurn_endsAtOnce ends, eq]
  · calc ({ t with chans := s.chans, port := s.port, du := s.du } : State)
        = { { t with chans := s.chans, port := s.port, fu := s.fu, du := s.du } with fu := t.fu } := rfl
      _ = { s with fu := t.fu } := by rw [frame]
      _ = s := by rw [unfaulted]

end

/-! ### The lookup that an ABORT or a RESET SITE found -/

section

variable {k : Site} {q : PrepReq} {i : Nat} {d : Table} {rest : List PortEntry} {s v : State}

/-- A draw that waits under an ABORT or a RESET SITE ends its PREPARE (R160, R173). -/
theorem State.drawStep_aborted (running : s.fu.partStopped = false) (cmd : (s.site k).cmd = some q)
    (marked : q.aborted = true) (draw : s.draw k = (v, .waits)) :
    (s.beside d rest).drawStep k i = State.endAborted k i (!s.sweepAwaited k) { v with drt := d, port := rest } := by
  have frame := State.draw_frame k s
  rw [draw] at frame
  have sup : v.sup = s.sup := (congrArg State.sup frame :)
  have ends : (s.beside d rest).prepareAborted k = true := by
    have here : ((s.beside d rest).site k).cmd = some q := cmd
    rw [State.prepareAborted, here]
    exact marked
  have awaited : (v.beside d rest).sweepAwaited k = s.sweepAwaited k := by
    rw [State.sweepAwaited, State.sweepAwaited, ← sup]
    rfl
  unfold State.drawStep
  rw [if_neg (by simp [State.beside, running]), State.draw_beside, draw]
  dsimp only
  rw [ends, if_pos rfl, awaited]
  rfl

/-- The lookup of a position without a record, with a slot and a place in the table free, asks for a draw (R48). -/
theorem State.lookupAccess_creates (unknown : s.drt.lookup q.pos = none) (room : s.drt.records.length < 8192)
    (free : (s.chan k).freeSlot ≠ none) :
    (s.withPort rest).lookupAccess k q.pos =
      (s.beside (s.drt.create q.pos k s.lc.clock) rest).drawStep k s.drt.records.length := by
  rw [State.lookupAccess_unknown (by exact unknown), if_neg (by exact free), if_pos (by exact room)]
  rfl

end

/-! ### RESET SITE -/

/-- The state in which RESET SITE, taken, ends the site's work: the lane waits for the sweep, and calibrations are
dropped (R134, R173). -/
def State.resetTaken (k : Site) (tag : Byte) (s : State) : State :=
  { s with
    chans := s.chans.set k (s.chan k).dropCal
    sup := { s.sup with lane := some { kind := 0x2A, tag := tag,
                                       task := .resetSite k (s.site k).outstanding (s.chan k).state } } }

section

variable {k : Site} {tag : Byte} {s : State}

theorem exec_resetSite (ready : s.SupReady) (w : Word) :
    exec (.resetSite tag w) s = .next (resetSiteAct w (s.taken 0x2A tag)) :=
  congrArg _ ((State.live_powered ready.powered _).trans (State.supRequest_ready ready ..))

theorem exec_resetSite_taken (ready : s.SupReady) :
    exec (.resetSite tag (wordOf k.val)) s = .next ((s.resetTaken k tag).endSiteWork k false) := by
  rw [exec_resetSite ready, resetSiteAct, siteOf_val]
  dsimp only
  rw [State.modChan_eq]
  rfl

theorem State.resetTaken_chan : (s.resetTaken k tag).chan k = (s.chan k).dropCal := Four.get_set_same ..

theorem State.resetTaken_chan_ne {j : Site} (h : j ≠ k) : (s.resetTaken k tag).chan j = s.chan j :=
  Four.get_set_ne _ _ h

theorem State.resetTaken_set (c : Channel) :
    (s.resetTaken k tag).chans.set k c = s.chans.set k c := Four.set_set ..

end

section

variable (c : Channel) (l : SlotId)

@[simp] theorem Channel.dropCal_slot : c.dropCal.slot l = c.slot l := by cases l <;> rfl

theorem Channel.dropCal_state (busy : c.state ≠ .calibrating) : c.dropCal.state = c.state := if_neg busy

theorem Channel.dropCal_runsOut : c.dropCal.runsOut = c.runsOut := by
  unfold Channel.runsOut Channel.pulsing Channel.dropCal
  cases state : c.state <;> rfl

theorem Channel.dropCal_endsAtOnce : c.dropCal.endsAtOnce = c.endsAtOnce := by
  unfold Channel.endsAtOnce Channel.pulsing Channel.dropCal
  cases state : c.state <;> rfl

end

/-- The acceptance of RESET SITE, by what a PREPARE alone has reached (R173). -/
theorem resetSite_prepare {k : Site} {tag : Byte} {q : PrepReq} {s : State} (cmd : (s.site k).cmd = some q)
    (burn : (s.site k).burn = none) :
    ((∃ i m, q.phase = .binding i m) ∨ (∃ i, q.phase = .slotTaking i) →
      (s.resetTaken k tag).endSiteWork k false = s.resetTaken k tag) ∧
    (q.phase = .lookup → (s.resetTaken k tag).endSiteWork k false = (s.resetTaken k tag).withSites
      (s.sites.set k { s.site k with cmd := some { q with aborted := true } })) ∧
    (q.phase = .heldPosition ∨ (∃ i, q.phase = .waitBlock i ∨ ∃ m, q.phase = .heldSerial i m) →
      (s.site k).aborts = [] → (s.resetTaken k tag).endSiteWork k false = (s.resetTaken k tag).withSites
        (s.sites.set k { s.site k with cmd := none, io := { (s.site k).io with
          replies := (s.site k).io.replies ++ [⟨0x01, q.tag, [89]⟩] } })) := by
  have here : ((s.resetTaken k tag).site k).cmd = some q := cmd
  refine ⟨fun access => ?_, fun phase => ?_, fun phase alone => ?_⟩
  · rw [State.endSiteWork, State.endCmdLane_through here access, State.endBurnLane_none (by exact burn)]
  · rw [State.endSiteWork, State.endCmdLane_lookup here phase, State.endBurnLane_none]
    · rfl
    · rw [State.site_withSites, Four.get_set_same]
      exact burn
  · rw [State.endSiteWork, State.endCmdLane_held here phase, State.answerPrepare_eq,
      SiteLink.answerCmd_alone here (by exact alone), State.endBurnLane_none]
    · rfl
    · rw [State.site_withSites, Four.get_set_same]
      exact burn

/-- A burn that runs out behind a command lane that RESET SITE has dealt with. -/
theorem resetSite_runsOut {k : Site} {tag : Byte} {b : BurnReq} {s : State} {x : Four SiteLink}
    (lane : (s.resetTaken k tag).endCmdLane k false = (s.resetTaken k tag).withSites x)
    (burn : (x.get k).burn = some b) (goes : b.waitsCal = false) (runs : (s.chan k).runsOut = true) :
    (s.resetTaken k tag).endSiteWork k false = ((s.resetTaken k tag).withChans (s.chans.set k
      { (s.chan k).dropCal with ending := some ((s.chan k).ending.getD .aborted) })).withSites x := by
  have chan : ((s.resetTaken k tag).withSites x).chan k = (s.chan k).dropCal :=
    State.resetTaken_chan (tag := tag)
  have sites : (((s.resetTaken k tag).withSites x).chans.set k
      { (s.chan k).dropCal with ending := some ((s.chan k).ending.getD .aborted) }) =
      s.chans.set k { (s.chan k).dropCal with ending := some ((s.chan k).ending.getD .aborted) } :=
    State.resetTaken_set (tag := tag) _
  rw [State.endSiteWork, lane, State.endBurnLane_runsOut (s := (s.resetTaken k tag).withSites x) burn goes
    (by rw [chan, Channel.dropCal_runsOut, runs]), chan]
  exact congrArg ((s.resetTaken k tag).withSites x).withChans sites

/-- The acceptance of RESET SITE, with a PREPARE beside a burn that runs out (R173). -/
theorem resetSite_both {k : Site} {tag : Byte} {q : PrepReq} {b : BurnReq} {s : State} (cmd : (s.site k).cmd = some q)
    (burn : (s.site k).burn = some b) (goes : b.waitsCal = false) (runs : (s.chan k).runsOut = true) {u : State}
    (hu : u = (s.resetTaken k tag).withChans (s.chans.set k
      { (s.chan k).dropCal with ending := some ((s.chan k).ending.getD .aborted) })) :
    ((∃ i m, q.phase = .binding i m) ∨ (∃ i, q.phase = .slotTaking i) →
      (s.resetTaken k tag).endSiteWork k false = u) ∧
    (q.phase = .lookup → (s.resetTaken k tag).endSiteWork k false = u.withSites
      (s.sites.set k { s.site k with cmd := some { q with aborted := true } })) ∧
    (q.phase = .heldPosition ∨ (∃ i, q.phase = .waitBlock i ∨ ∃ m, q.phase = .heldSerial i m) →
      (∀ a ∈ (s.site k).aborts, a.waitsBurn = true) → (s.resetTaken k tag).endSiteWork k false = u.withSites
        (s.sites.set k { s.site k with
          cmd := none
          aborts := (s.site k).aborts.map fun a => { a with waitsCmd := false }
          io := { (s.site k).io with replies := (s.site k).io.replies ++ [⟨0x01, q.tag, [89]⟩] } })) := by
  have here : ((s.resetTaken k tag).site k).cmd = some q := cmd
  subst hu
  refine ⟨fun access => ?_, fun phase => ?_, fun phase wait => ?_⟩
  · exact resetSite_runsOut (x := s.sites) (State.endCmdLane_through here access) burn goes runs
  · exact resetSite_runsOut (State.endCmdLane_lookup here phase) (by rw [Four.get_set_same]; exact burn) goes runs
  · refine resetSite_runsOut ((State.endCmdLane_held here phase).trans ?_) (by rw [Four.get_set_same]; exact burn) goes
      runs
    rw [State.answerPrepare_eq, SiteLink.answerCmd_behind here (by exact wait)]
    rfl

/-! ### The sweep of RESET SITE (R65) -/

/-- A channel none of whose slots is selected stands. -/
theorem State.Emptied.chan_same {which : Site → SlotId → Bool} {s t : State} (h : State.Emptied which s t) {j : Site}
    (none : ∀ l, which j l = false) : t.chan j = s.chan j := by
  have slot (l : SlotId) : (t.chan j).slot l = (s.chan j).slot l :=
    (h.slots j l).trans (if_neg fun c => Bool.false_ne_true ((none l).symm.trans c.1))
  have a : (t.chan j).slotA = (s.chan j).slotA := slot .a
  have b : (t.chan j).slotB = (s.chan j).slotB := slot .b
  have channel := h.channels j
  rw [← a, ← b] at channel
  exact channel

theorem DieRecord.sweptBy_eq (k : Site) (r : DieRecord) : r.sweptBy k =
    if r.state = .reserved ∧ r.holder.map Holder.site = some k then { r with holder := none } else r := rfl

/-- The sweep changes the RESERVED records of the site. -/
theorem DieRecord.sweptBy_ne {k : Site} {r : DieRecord} :
    r.sweptBy k ≠ r ↔ r.state = .reserved ∧ r.holder.map Holder.site = some k := by
  rw [DieRecord.sweptBy_eq]
  split
  · next held =>
    refine ⟨fun _ => held, fun _ same => ?_⟩
    have unheld : none = r.holder := congrArg DieRecord.holder same
    rw [← unheld] at held
    cases held.2
  · next free => exact ⟨fun changed => absurd rfl changed, fun held => absurd held free⟩

/-- The sweep moves no record between states, and sets neither mark nor flag. -/
theorem Table.sweptBy_counts (k : Site) (d : Table) : (d.convert (DieRecord.sweptBy k)).counts = d.counts := by
  have still (r : DieRecord) : (r.sweptBy k).state = r.state ∧ (r.sweptBy k).exhausted = r.exhausted ∧
      (r.sweptBy k).recovered = r.recovered := by
    rw [DieRecord.sweptBy_eq]
    split <;> exact ⟨rfl, rfl, rfl⟩
  rw [Table.convert_counts]
  generalize d.counts = c
  induction d.records generalizing c with
  | nil => rfl
  | cons r rs ih =>
    obtain ⟨state, exhausted, recovered⟩ := still r
    rw [List.foldl_cons, Counters.change_same c state exhausted recovered]
    exact ih c

theorem exec_resetSiteSweep {k : Site} {tag : Byte} {n : Nat} {before : ChanState} {s : State}
    (powered : s.powered = true) (cmd : (s.site k).cmd = none) (burn : (s.site k).burn = none) (port : s.port = [])
    (lane : s.sup.lane = some { kind := 0x2A, tag := tag, task := .resetSite k n before }) :
    exec (.resetSiteSweep k) s = .next (s.sweepSite k n before) := by
  have current : s.portCurrent = true := by
    rw [State.portCurrent, port]
    rfl
  refine congrArg _ ((State.live_powered powered _).trans ?_)
  rw [State.takeSweep, lane]
  dsimp only
  rw [if_pos ⟨rfl, current⟩, State.endSiteWork_free cmd burn, if_neg (by simp [cmd, burn])]

/-- The entries that the sweep of site `k` withdraws (R65, R95). -/
theorem State.sweptEntries {k : Site} {out : DEntry → Bool} {s : State}
    (entries : ∀ e, out e = true ↔ e.isAdopt k = true ∨
      ∃ l, DEntry.isSlot k l e = true ∧ ((s.chan k).slot l).state ≠ .empty) :
    (fun e => s.emptiedEntry (fun j _ => j == k) e || e.isAdopt k) = out := by
  funext e
  rw [Bool.eq_iff_iff, entries]
  simp only [DEntry.isSlot_iff]
  cases e with
  | slot j l n p tag =>
    simp only [State.emptiedEntry, DEntry.isAdopt, Bool.or_false, Bool.and_eq_true, beq_iff_eq, bne_iff_ne,
      Bool.false_eq_true, false_or]
    constructor
    · rintro ⟨rfl, live⟩
      exact ⟨l, ⟨n, p, tag, rfl⟩, live⟩
    · rintro ⟨_, ⟨_, _, _, h⟩, live⟩
      cases h
      exact ⟨rfl, live⟩
  | adopt => simp [State.emptiedEntry]
  | fingerprint => simp [State.emptiedEntry]

/-- Settles O49: the acceptance by what the lanes hold, the draw that waits, and the sweep. -/
theorem resetSiteClearsTheSite : Obligations.ResetSiteClearsTheSite := by
  refine ⟨?accept, ?lookup, ?sweep⟩
  case accept =>
    rintro tag k n c su s ready rfl rfl rfl
    rw [exec_resetSite_taken ready]
    refine ⟨fun w big => ?_, fun cmd burn => ?_, fun q cmd burn => ?_, fun q b cmd burn goes runs => ?_,
      fun b burn cmd => ⟨fun waits alone => ?_, fun l x goes burning taking => ?_⟩⟩
    · rw [exec_resetSite ready, resetSiteAct, siteOf_big big, ← State.supRefused ready]
      rfl
    · rw [State.endSiteWork_free (by exact cmd) (by exact burn)]
      rfl
    · obtain ⟨through, marked, held⟩ := resetSite_prepare (tag := tag) cmd burn
      exact ⟨fun h => congrArg _ (through h), fun h => congrArg _ (marked h), fun h alone => congrArg _ (held h alone)⟩
    · obtain ⟨through, marked, held⟩ := resetSite_both (tag := tag) cmd burn goes runs rfl
      exact ⟨fun h => congrArg _ (through h), fun h => congrArg _ (marked h), fun h wait => congrArg _ (held h wait)⟩
    · rw [State.endSiteWork, State.endCmdLane_none (by exact cmd), State.endBurnLane_waitsCal (by exact burn) waits,
        State.answerBurn_eq, SiteLink.answerBurn_alone (by exact burn) (by exact alone)]
      rfl
    · have lane : (s.resetTaken k tag).endSiteWork k false = (s.resetTaken k tag).endBurnLane k := by
        rw [State.endSiteWork, State.endCmdLane_none (by exact cmd)]
      have chan := State.resetTaken_chan (k := k) (tag := tag) (s := s)
      rw [lane]
      refine ⟨fun r state record alone => ?_, fun ends => ?_, fun runs => ?_⟩
      · have busy : (s.chan k).state ≠ .calibrating := by
          rcases state with h | h <;> rw [h] <;> exact ChanState.noConfusion
        rw [State.endBurnLane_before (s := s.resetTaken k tag) (by exact burn) goes
          (by rw [chan, Channel.dropCal_state _ busy]; exact state) (by rw [chan]; exact burning)
          (by rw [chan, Channel.dropCal_slot]; exact taking) record, State.answerBurn_eq, chan, State.resetTaken_set]
        refine ⟨_, rfl, ?_, ?_, fun j hj => ⟨Four.get_set_ne _ _ hj, Four.get_set_ne _ _ hj⟩, rfl, rfl⟩
        · rw [State.chan_withSites, State.chan_withChans, Four.get_set_same]
          exact Channel.leftBy_unburned ..
        · rw [State.site_withSites, Four.get_set_same]
          exact SiteLink.answerBurn_alone (by exact burn) (by exact alone) ..
      · obtain ⟨t, eq, ended, ending, others, frame⟩ := State.endBurnLane_endsAtOnce (s := s.resetTaken k tag)
          (by exact burn) goes (by rw [chan, Channel.dropCal_endsAtOnce]; exact ends) (by rw [chan]; exact burning)
          (by rw [chan, Channel.dropCal_slot]; exact taking)
        rw [chan] at ended
        exact ⟨t, congrArg _ eq, ended, ending, fun j hj => (others j hj).trans (State.resetTaken_chan_ne hj),
          (congrArg State.sup frame :),
          congrArg (fun u : State => { u with chans := s.chans, sup := s.sup }) frame⟩
      · rw [State.endBurnLane_runsOut (s := s.resetTaken k tag) (by exact burn) goes
          (by rw [chan, Channel.dropCal_runsOut]; exact runs), chan,
          State.resetTaken_set]
        rfl
  case lookup =>
    intro k q o n before rest m s v powered running cmd phase marked alone lane task front unknown room free draw
    have awaited : s.sweepAwaited k = true := State.sweepAwaited_iff.mpr ⟨o, n, before, lane, task⟩
    obtain ⟨sites, -⟩ := State.draw_sites draw
    have access : (s.withPort rest).lookupAccess k q.pos =
        State.answerPrepare k 89 [] { v with drt := s.drt.create q.pos k s.lc.clock, port := rest } := by
      rw [State.lookupAccess_creates unknown room free, State.drawStep_aborted running cmd marked draw, awaited]
      rfl
    rw [exec_prepareLookup powered front, State.prepareAccess_lookup (by exact cmd) phase,
      State.lookupTaken_answered access, State.answerPrepare_eq]
    have site : v.site k = s.site k := congrArg (Four.get · k) sites
    have here : ({ v with drt := s.drt.create q.pos k s.lc.clock, port := rest } : State).site k = s.site k := site
    rw [here, SiteLink.answerCmd_alone cmd alone, ← sites]
    rfl
  case sweep =>
    intro tag k n before out s powered cmd burn port lane entries
    refine ⟨_, exec_resetSiteSweep powered cmd burn port lane, ?_⟩
    have emptied := (State.emptied_refl (s.withDrt (s.drt.convert (DieRecord.sweptBy k)))).site (k := k) fun _ => rfl
    have only : (fun (j : Site) (_ : SlotId) => false || j == k) = fun j _ => j == k := by
      funext j l
      rfl
    rw [only] at emptied
    rw [State.sweepSite]
    dsimp only
    generalize (s.withDrt (s.drt.convert (DieRecord.sweptBy k))).emptySlots k = v at emptied ⊢
    have drt : v.drt = s.drt.convert (DieRecord.sweptBy k) := (congrArg State.drt emptied.frame :)
    have sup : v.sup = s.sup := (congrArg State.sup emptied.frame :)
    have channel : { v.chan k with slotA := (s.chan k).slotA, slotB := (s.chan k).slotB } = s.chan k :=
      emptied.channels k
    rw [State.supAnswer_held (q := ⟨0x2A, tag, .resetSite k n before⟩)
      (by exact (congrArg SupLink.lane sup).trans lane)]
    have reset : ((v.duWithdraw (DEntry.isAdopt k)).modChan k Channel.siteReset).chan k = (v.chan k).siteReset :=
      State.modChan_chan ..
    refine ⟨fun i r record => ?record, (congrArg (·.records.length) drt).trans (Table.convert_length ..),
      (congrArg Table.posMap drt).trans (Table.convert_posMap ..),
      (congrArg Table.counts drt).trans (Table.sweptBy_counts k s.drt), fun p page => ?marks, ?channel⟩
    case record =>
      refine (congrArg (·.records[i]?) drt).trans ((Table.convert_records ..).trans ?_)
      rw [record]
      rfl
    case marks =>
      obtain ⟨hit, miss⟩ := Table.convert_marks (DieRecord.sweptBy k) s.drt page
      simp only [DieRecord.sweptBy_ne] at hit miss
      exact ⟨fun h => (congrArg (·.marks[p]?) drt).trans (hit h), fun h => (congrArg (·.marks[p]?) drt).trans (miss h)⟩
    case channel =>
      simp only [State.chan_withSup, reset]
      refine ⟨rfl, rfl, rfl, rfl, rfl, rfl, rfl, rfl, rfl, rfl, rfl, rfl, rfl, rfl, (congrArg Channel.offset channel :),
        (congrArg Channel.degraded channel :), (congrArg Channel.contact channel :),
        (congrArg Channel.contactLost channel :), (congrArg Channel.attPulses channel :),
        (congrArg Channel.attBits channel :), fun l => ?slots, ?du, fun j other => ?others, ?sup, ?frame⟩
      case slots =>
        have slot := emptied.slots k l
        refine Eq.trans ?_ (slot.trans ?_)
        · cases l <;> rfl
        · by_cases empty : ((s.chan k).slot l).state = .empty
          · rw [if_pos empty]
            exact if_neg fun c => c.2 empty
          · rw [if_neg empty]
            exact if_pos ⟨beq_self_eq_true k, empty⟩
      case du =>
        have withdrawn : (v.du.withdraw (DEntry.isAdopt k)) = s.du.withdraw out := by
          rw [emptied.derivations, DerivUnit.withdraw_withdraw, ← State.sweptEntries entries]
          rfl
        exact withdrawn
      case others =>
        refine (State.modChan_chan_ne _ _ other).trans (emptied.chan_same fun l => ?_)
        exact beq_eq_false_iff_ne.mpr other
      case sup =>
        exact congrArg (fun su : SupLink => ({ lane := none, io := { su.io with replies := su.io.replies ++
          [⟨0x2A, tag, [0, wordOf n, wordOf before.code]⟩] } } : SupLink)) sup
      case frame =>
        exact congrArg (fun u : State => { u with drt := s.drt, sup := s.sup }) emptied.frame

end Sys2Proof.Machine
end

section
/-!
PROOFS. ABORT (R160): O21.
-/

namespace Sys2Proof.Machine

/-! ### The ABORT itself -/

/-- A site's link with an ABORT taken: its DONE is formed, or it waits for the replies of what it ends (R160). -/
def SiteLink.abortTaken (tag : Byte) (sl : SiteLink) : SiteLink :=
  SiteLink.settleAborts
    { sl with aborts := sl.aborts ++
        [{ tag := tag, waitsCmd := sl.cmd.any PrepReq.inLookup, waitsBurn := sl.burn.isSome }] }

section

variable {sl : SiteLink} {q : PrepReq} {tag : Byte}

/-- With nothing to wait for, and no ABORT before it, the ABORT is DONE. -/
theorem SiteLink.abortTaken_done (alone : sl.aborts = []) (cmd : sl.cmd.any PrepReq.inLookup = false)
    (burn : sl.burn = none) : sl.abortTaken tag =
      { sl with io := { sl.io with replies := sl.io.replies ++ [⟨0x04, tag, [0]⟩] } } := by
  obtain ⟨io, enabled, prepare, burning, aborts⟩ := sl
  dsimp only at alone cmd burn
  subst alone burn
  rw [SiteLink.abortTaken, SiteLink.settleAborts_split (wait := [])
    (done := [{ tag := tag, waitsCmd := false, waitsBurn := false }]) (by rw [cmd]; rfl)
    (by simp [AbortWait.ready]) (by simp)]
  rfl

/-- An ABORT that has something to wait for goes behind the earlier ones. -/
theorem SiteLink.abortTaken_waits {wc wb : Bool} (wait : ∀ a ∈ sl.aborts, a.waitsCmd = true ∨ a.waitsBurn = true)
    (cmd : sl.cmd.any PrepReq.inLookup = wc) (burn : sl.burn.isSome = wb) (busy : wc = true ∨ wb = true) :
    sl.abortTaken tag = { sl with aborts := sl.aborts ++ [{ tag := tag, waitsCmd := wc, waitsBurn := wb }] } := by
  subst cmd burn
  refine SiteLink.settleAborts_waiting fun a mem => ?_
  have held : a.waitsCmd = true ∨ a.waitsBurn = true := by
    rcases List.mem_append.mp mem with mem | mem
    · exact wait a mem
    · rw [List.mem_singleton.mp mem]
      exact busy
  rcases held with h | h <;> simp [AbortWait.ready, h]

theorem PrepReq.inLookup_lookup (phase : q.phase = .lookup) : q.inLookup = true := by
  rw [PrepReq.inLookup, phase]

theorem PrepReq.inLookup_access (phase : (∃ i m, q.phase = .binding i m) ∨ ∃ i, q.phase = .slotTaking i) :
    q.inLookup = false := by
  rcases phase with ⟨i, m, phase⟩ | ⟨i, phase⟩ <;> rw [PrepReq.inLookup, phase]

end

section

variable {k : Site} {tag : Byte} {s v : State}

theorem exec_abort_ready (ready : s.SiteReady k) : exec (.abort k tag) s = .next (s.takeAbort k tag) := by
  rw [exec_abort ready.powered]
  exact congrArg _ (State.siteRequest_ready ready ..)

theorem State.takeAbort_modSite : s.takeAbort k tag = (s.endSiteWork k true).modSite k (SiteLink.abortTaken tag) := rfl

theorem State.withSites_self (k : Site) (s : State) : s.withSites (s.sites.set k (s.site k)) = s := by
  rw [State.site, Four.set_get]
  rfl

/-- An ABORT, by the link that the site's ended work leaves. -/
theorem State.takeAbort_eq {sl sl' : SiteLink} (ends : s.endSiteWork k true = v.withSites (s.sites.set k sl))
    (taken : sl.abortTaken tag = sl') : s.takeAbort k tag = v.withSites (s.sites.set k sl') := by
  rw [State.takeAbort_modSite, ends, State.modSite_eq, State.site_withSites, State.withSites_sites, Four.get_set_same,
    Four.set_set, State.withSites_withSites, taken]

/-- An ABORT that finds nothing it could end on the lanes. -/
theorem State.takeAbort_same {sl' : SiteLink} (ends : s.endSiteWork k true = s)
    (taken : (s.site k).abortTaken tag = sl') : s.takeAbort k tag = s.withSites (s.sites.set k sl') :=
  State.takeAbort_eq (ends.trans (State.withSites_self k s).symm) taken

theorem State.endClaimed_eq (k : Site) (i : Nat) (c : Code) (s : State) : s.endClaimed k i c =
    (s.withPort (s.port ++ [{ access := .clearing i, site := k, moment := s.now }])).withSites
      (s.sites.set k ((s.site k).answerCmd c.word [])) := rfl

/-- The ending that an ABORT fixes for a burn that runs out (R125). -/
def State.abortFixed (k : Site) (s : State) : Four Channel :=
  s.chans.set k { s.chan k with ending := some ((s.chan k).ending.getD .aborted) }

end

/-! ### Where an ABORT reaches -/

/-- `t` is `s` but for the lanes, slots and channel of site `k`, the port, the derivation unit and the faults. -/
structure State.ReachesOnly (k : Site) (s t : State) : Prop where
  sites : ∀ j, j ≠ k → t.site j = s.site j
  channels : ∀ j, j ≠ k → t.chan j = s.chan j
  frame : { t with chans := s.chans, sites := s.sites, port := s.port, du := s.du, fu := s.fu } = s

section

variable {k : Site} {s t u : State}

theorem State.ReachesOnly.refl (k : Site) (s : State) : State.ReachesOnly k s s := ⟨fun _ _ => rfl, fun _ _ => rfl, rfl⟩

theorem State.ReachesOnly.trans (h : State.ReachesOnly k s t) (g : State.ReachesOnly k t u) :
    State.ReachesOnly k s u where
  sites j hj := (g.sites j hj).trans (h.sites j hj)
  channels j hj := (g.channels j hj).trans (h.channels j hj)
  frame := (congrArg (fun v : State => { v with
    chans := s.chans, sites := s.sites, port := s.port, du := s.du, fu := s.fu }) g.frame).trans h.frame

theorem State.reaches_modSite (f : SiteLink → SiteLink) (s : State) : State.ReachesOnly k s (s.modSite k f) :=
  ⟨fun _ hj => State.modSite_site_ne _ _ hj, fun _ _ => rfl, rfl⟩

theorem State.reaches_modChan (f : Channel → Channel) (s : State) : State.ReachesOnly k s (s.modChan k f) :=
  ⟨fun _ _ => rfl, fun _ hj => State.modChan_chan_ne _ _ hj, rfl⟩

theorem State.reaches_withPort (x : List PortEntry) (s : State) : State.ReachesOnly k s (s.withPort x) :=
  ⟨fun _ _ => rfl, fun _ _ => rfl, rfl⟩

theorem State.reaches_withDu (x : DerivUnit) (s : State) : State.ReachesOnly k s (s.withDu x) :=
  ⟨fun _ _ => rfl, fun _ _ => rfl, rfl⟩

theorem State.reaches_withFu (x : FaultUnit) (s : State) : State.ReachesOnly k s (s.withFu x) :=
  ⟨fun _ _ => rfl, fun _ _ => rfl, rfl⟩

theorem State.reaches_leaveBurn (e : Ending) (halt : Bool) (p : Pos) (s : State) :
    State.ReachesOnly k s (s.leaveBurn k e halt p) := by
  rw [State.leaveBurn, State.reportEnding_eq]
  exact (State.reaches_withFu _ s).trans (State.reaches_modChan ..)

theorem State.reaches_finishBurn (e : Ending) (halt : Bool) (s : State) :
    State.ReachesOnly k s (s.finishBurn k e halt) := by
  unfold State.finishBurn
  split
  · exact .refl k s
  · split
    · exact ((((State.reaches_withDu _ s).trans (State.reaches_withPort ..)).trans (State.reaches_modChan ..)).trans
        (State.reaches_withPort ..)).trans (State.reaches_leaveBurn ..)
    · exact ((State.reaches_modChan _ s).trans (State.reaches_leaveBurn ..)).trans (State.reaches_modSite ..)

theorem State.reaches_interruptBurn (e : Ending) (s : State) : State.ReachesOnly k s (s.interruptBurn k e) := by
  unfold State.interruptBurn
  dsimp only
  cases (s.chan k).state
  case waiting | qualifying | adoptWait => exact State.reaches_finishBurn ..
  case checking =>
    dsimp only
    split
    · exact State.reaches_finishBurn ..
    · exact State.reaches_modChan ..
  case verifying => exact State.reaches_modChan ..
  case programming | locking =>
    dsimp only
    split
    · exact State.reaches_modChan ..
    · exact State.reaches_finishBurn ..
  all_goals exact .refl k s

theorem State.reaches_endCmdLane (s : State) : State.ReachesOnly k s (s.endCmdLane k true) := by
  unfold State.endCmdLane
  split
  · exact .refl k s
  · split
    · exact State.reaches_modSite _ s
    · exact .refl k s
    · exact .refl k s
    · exact State.reaches_modSite _ s
    all_goals exact (State.reaches_modSite _ s).trans (State.reaches_withPort ..)

theorem State.reaches_endBurnLane (s : State) : State.ReachesOnly k s (s.endBurnLane k) := by
  unfold State.endBurnLane
  split
  · exact .refl k s
  · split
    · exact State.reaches_modSite _ s
    · exact State.reaches_interruptBurn _ s

theorem State.reaches_takeAbort (tag : Byte) (s : State) : State.ReachesOnly k s (s.takeAbort k tag) :=
  ((State.reaches_endCmdLane s).trans (State.reaches_endBurnLane _)).trans (State.reaches_modSite ..)

/-- A site request reaches as far as what it does when it is taken. -/
theorem State.reaches_siteRequest {act : State → State} (h : State.ReachesOnly k s (act s)) (kind tag : Byte)
    (busy : Bool) : State.ReachesOnly k s (s.siteRequest k kind tag busy act) := by
  have answered (c : Code) : State.ReachesOnly k s (s.siteReply k kind tag c []) :=
    ⟨fun _ hj => Four.get_set_ne _ _ hj, fun _ _ => rfl, rfl⟩
  unfold State.siteRequest
  split
  · exact State.reaches_withFu _ s
  · split
    · exact answered _
    · split
      · exact answered _
      · split
        · exact answered _
        · exact h

theorem exec_abort_reaches {tag : Byte} (run : exec (.abort k tag) s = .next t) : State.ReachesOnly k s t := by
  have live : t = s.live fun s => s.siteRequest k 0x04 tag false (State.takeAbort k tag) :=
    (Host.Outcome.next.inj run).symm
  rw [live, State.live]
  split
  · exact State.reaches_siteRequest (State.reaches_takeAbort tag s) ..
  · exact .refl k s

end

/-! ### ABORT by what the lanes hold -/

section

variable {k : Site} {b : BurnReq} {sl : SiteLink} {x : Four SiteLink} {v : State}

/-- The burn lane behind a command lane that has been dealt with: no BURN. -/
theorem State.endBurnLane_behind_none (free : sl.burn = none) :
    (v.withSites (x.set k sl)).endBurnLane k = v.withSites (x.set k sl) := by
  refine State.endBurnLane_none ?_
  rw [State.site_withSites, Four.get_set_same, free]

/-- The burn lane behind a command lane that has been dealt with: a burn that runs out. -/
theorem State.endBurnLane_behind_runsOut (burn : sl.burn = some b) (goes : b.waitsCal = false)
    (runs : (v.chan k).runsOut = true) :
    (v.withSites (x.set k sl)).endBurnLane k = (v.withChans (v.abortFixed k)).withSites (x.set k sl) := by
  refine (State.endBurnLane_runsOut (s := v.withSites (x.set k sl)) ?_ goes runs).trans rfl
  rw [State.site_withSites, Four.get_set_same, burn]

/-- The burn lane behind a command lane that has been dealt with: a BURN that waits on a calibration. -/
theorem State.endBurnLane_behind_waitsCal (burn : sl.burn = some b) (waits : b.waitsCal = true) :
    (v.withSites (x.set k sl)).endBurnLane k = v.withSites (x.set k (sl.answerBurn 89 [])) := by
  rw [State.endBurnLane_waitsCal (s := v.withSites (x.set k sl)) (b := b) ?_ waits, State.answerBurn_eq,
    State.site_withSites, State.withSites_sites, Four.get_set_same, Four.set_set, State.withSites_withSites]
  rw [State.site_withSites, Four.get_set_same, burn]

/-- A site's link once its PREPARE has been answered ABORTED. -/
def SiteLink.aborted (q : PrepReq) (sl : SiteLink) : SiteLink :=
  { sl with cmd := none, io := { sl.io with replies := sl.io.replies ++ [⟨0x01, q.tag, [89]⟩] } }

/-- An ABORT behind a PREPARE that it ends, with no BURN. -/
theorem SiteLink.aborted_done {q : PrepReq} {tag : Byte} (alone : sl.aborts = []) (burn : sl.burn = none) :
    (sl.aborted q).abortTaken tag = { sl with cmd := none, io := { sl.io with
      replies := sl.io.replies ++ [⟨0x01, q.tag, [89]⟩, ⟨0x04, tag, [0]⟩] } } := by
  rw [SiteLink.abortTaken_done (by exact alone) rfl (by exact burn), SiteLink.aborted]
  simp only [List.append_assoc, List.cons_append, List.nil_append]

/-- A site's link once its PREPARE and its BURN have been answered ABORTED. -/
def SiteLink.bothAborted (q : PrepReq) (b : BurnReq) (sl : SiteLink) : SiteLink :=
  { sl with cmd := none, burn := none, io := { sl.io with
    replies := sl.io.replies ++ [⟨0x01, q.tag, [89]⟩, ⟨0x03, b.tag, [89]⟩] } }

theorem SiteLink.aborted_answerBurn (q : PrepReq) (alone : sl.aborts = []) (burn : sl.burn = some b) :
    (sl.aborted q).answerBurn 89 [] = sl.bothAborted q b := by
  rw [SiteLink.answerBurn_alone (b := b) (by exact burn) (by exact alone), SiteLink.aborted, SiteLink.bothAborted]
  simp only [List.append_assoc, List.cons_append, List.nil_append]

theorem SiteLink.bothAborted_done {q : PrepReq} {tag : Byte} (alone : sl.aborts = []) :
    (sl.bothAborted q b).abortTaken tag = { sl with cmd := none, burn := none, io := { sl.io with
      replies := sl.io.replies ++ [⟨0x01, q.tag, [89]⟩, ⟨0x03, b.tag, [89]⟩, ⟨0x04, tag, [0]⟩] } } := by
  rw [SiteLink.abortTaken_done (by exact alone) rfl rfl, SiteLink.bothAborted]
  simp only [List.append_assoc, List.cons_append, List.nil_append]

end

/-- The ABORT of a site with no burn and no earlier ABORT (R29, R90, R160). -/
theorem abort_prepare {k : Site} {tag : Byte} {q : PrepReq} {s : State} (ready : s.SiteReady k)
    (burn : (s.site k).burn = none) (alone : (s.site k).aborts = []) (cmd : (s.site k).cmd = some q) :
    (∀ i, q.phase = .waitBlock i ∨ (∃ n, q.phase = .heldSerial i n) →
      exec (.abort k tag) s = .next ((s.withPort
          (s.port ++ [{ access := .clearing i, site := k, moment := s.now }])).withSites
        (s.sites.set k { s.site k with cmd := none, io := { (s.site k).io with
          replies := (s.site k).io.replies ++ [⟨0x01, q.tag, [89]⟩, ⟨0x04, tag, [0]⟩] } }))) ∧
    (q.phase = .heldPosition →
      exec (.abort k tag) s = .next (s.withSites (s.sites.set k { s.site k with cmd := none, io := { (s.site k).io with
        replies := (s.site k).io.replies ++ [⟨0x01, q.tag, [89]⟩, ⟨0x04, tag, [0]⟩] } }))) ∧
    ((∃ i n, q.phase = .binding i n) ∨ (∃ i, q.phase = .slotTaking i) →
      exec (.abort k tag) s = .next (s.reply (.site k) ⟨0x04, tag, [0]⟩)) ∧
    (q.phase = .lookup →
      exec (.abort k tag) s = .next (s.withSites (s.sites.set k { s.site k with
        cmd := some { q with aborted := true }
        aborts := [{ tag := tag, waitsCmd := true, waitsBurn := false }] }))) := by
  rw [exec_abort_ready ready]
  have freed : (s.site k).answerCmd 89 [] = (s.site k).aborted q := SiteLink.answerCmd_alone cmd alone ..
  refine ⟨fun i phase => ?_, fun phase => ?_, fun phase => ?_, fun phase => ?_⟩
  · refine congrArg _ (State.takeAbort_eq ?_ (SiteLink.aborted_done alone burn))
    rw [State.endSiteWork, State.endCmdLane_claimed cmd phase, State.endAborted_true, State.endClaimed_eq]
    refine (State.endBurnLane_behind_none ?_).trans ?_ <;> rw [Code.word, freed]
    exact burn
  · refine congrArg _ (State.takeAbort_eq ?_ (SiteLink.aborted_done alone burn))
    rw [State.endSiteWork, State.endCmdLane_heldPosition cmd phase, State.answerPrepare_eq, freed,
      State.endBurnLane_behind_none (by exact burn)]
  · refine congrArg _ (State.takeAbort_same ?_ (SiteLink.abortTaken_done alone ?_ burn))
    · rw [State.endSiteWork, State.endCmdLane_through cmd phase, State.endBurnLane_none burn]
    · rw [cmd]
      exact PrepReq.inLookup_access phase
  · refine congrArg _ (State.takeAbort_eq (sl := { s.site k with cmd := some { q with aborted := true } }) ?_ ?_)
    · rw [State.endSiteWork, State.endCmdLane_lookup cmd phase, State.endBurnLane_behind_none (by exact burn)]
    · rw [SiteLink.abortTaken_waits (wc := true) (wb := false) (by simp [alone])
        (by exact PrepReq.inLookup_lookup phase) (by simp [burn]) (.inl rfl)]
      simp [alone]

/-- The ABORT that meets a PREPARE beside a burn or a BURN that waits on a calibration (R103, R160). -/
theorem abort_both {k : Site} {tag : Byte} {q : PrepReq} {b : BurnReq} {s : State} (ready : s.SiteReady k)
    (cmd : (s.site k).cmd = some q) (burn : (s.site k).burn = some b) :
    (∀ i, q.phase = .waitBlock i ∨ (∃ n, q.phase = .heldSerial i n) →
      (b.waitsCal = true → (s.site k).aborts = [] →
        exec (.abort k tag) s = .next ((s.withPort
          (s.port ++ [{ access := .clearing i, site := k, moment := s.now }])).withSites
          (s.sites.set k { s.site k with cmd := none, burn := none, io := { (s.site k).io with
            replies := (s.site k).io.replies ++ [⟨0x01, q.tag, [89]⟩, ⟨0x03, b.tag, [89]⟩, ⟨0x04, tag, [0]⟩] } }))) ∧
      (b.waitsCal = false → (s.chan k).runsOut = true → (∀ a ∈ (s.site k).aborts, a.waitsBurn = true) →
        exec (.abort k tag) s = .next (((s.withChans (s.abortFixed k)).withPort
          (s.port ++ [{ access := .clearing i, site := k, moment := s.now }])).withSites
            (s.sites.set k { s.site k with
              cmd := none
              aborts := ((s.site k).aborts.map fun a => { a with waitsCmd := false }) ++
                [{ tag := tag, waitsCmd := false, waitsBurn := true }]
              io := { (s.site k).io with replies := (s.site k).io.replies ++ [⟨0x01, q.tag, [89]⟩] } })))) ∧
    (b.waitsCal = false → (s.chan k).runsOut = true →
      (∀ a ∈ (s.site k).aborts, a.waitsCmd = true ∨ a.waitsBurn = true) →
      ((∃ i n, q.phase = .binding i n) ∨ (∃ i, q.phase = .slotTaking i) →
        exec (.abort k tag) s = .next ((s.withChans (s.abortFixed k)).withSites (s.sites.set k { s.site k with
          aborts := (s.site k).aborts ++ [{ tag := tag, waitsCmd := false, waitsBurn := true }] }))) ∧
      (q.phase = .lookup →
        exec (.abort k tag) s = .next ((s.withChans (s.abortFixed k)).withSites (s.sites.set k { s.site k with
          cmd := some { q with aborted := true }
          aborts := (s.site k).aborts ++ [{ tag := tag, waitsCmd := true, waitsBurn := true }] })))) := by
  rw [exec_abort_ready ready]
  refine ⟨fun i phase => ⟨fun waits alone => ?_, fun goes runs wait => ?_⟩,
    fun goes runs wait => ⟨fun phase => ?_, fun phase => ?_⟩⟩
  · have freed : (s.site k).answerCmd 89 [] = (s.site k).aborted q := SiteLink.answerCmd_alone cmd alone ..
    refine congrArg _ (State.takeAbort_eq ?_ (SiteLink.bothAborted_done (b := b) alone))
    rw [State.endSiteWork, State.endCmdLane_claimed cmd phase, State.endAborted_true, State.endClaimed_eq,
      Code.word, freed, State.endBurnLane_behind_waitsCal (by exact burn) waits,
      SiteLink.aborted_answerBurn q alone burn]
  · have ends : s.endSiteWork k true = ((s.withChans (s.abortFixed k)).withPort
        (s.port ++ [{ access := .clearing i, site := k, moment := s.now }])).withSites
          (s.sites.set k { s.site k with
            cmd := none
            aborts := (s.site k).aborts.map fun a => { a with waitsCmd := false }
            io := { (s.site k).io with replies := (s.site k).io.replies ++ [⟨0x01, q.tag, [89]⟩] } }) := by
      rw [State.endSiteWork, State.endCmdLane_claimed cmd phase, State.endAborted_true, State.endClaimed_eq,
        SiteLink.answerCmd_behind cmd wait, State.endBurnLane_behind_runsOut (by exact burn) goes (by exact runs)]
      rfl
    refine congrArg _ (State.takeAbort_eq ends
      (SiteLink.abortTaken_waits (wc := false) (wb := true) ?_ rfl (congrArg Option.isSome burn) (.inr rfl)))
    intro a mem
    obtain ⟨a', mem', rfl⟩ := List.mem_map.mp mem
    exact .inr (wait a' mem')
  · have ends : s.endSiteWork k true = (s.withChans (s.abortFixed k)).withSites (s.sites.set k (s.site k)) := by
      rw [State.endSiteWork, State.endCmdLane_through cmd phase, State.endBurnLane_runsOut burn goes runs]
      exact (State.withSites_self k (s.withChans (s.abortFixed k))).symm
    refine congrArg _ (State.takeAbort_eq ends (SiteLink.abortTaken_waits wait ?_ ?_ (.inr rfl)))
    · rw [cmd]
      exact PrepReq.inLookup_access phase
    · rw [burn]
      rfl
  · refine congrArg _ (State.takeAbort_eq (sl := { s.site k with cmd := some { q with aborted := true } }) ?_
      (SiteLink.abortTaken_waits wait (PrepReq.inLookup_lookup phase) ?_ (.inr rfl)))
    · rw [State.endSiteWork, State.endCmdLane_lookup cmd phase,
        State.endBurnLane_behind_runsOut (by exact burn) goes runs]
    · rw [burn]
      rfl

/-- The ABORT on a site whose BURN goes on or ends in its own time, and waits for it (R121, R125, R160). -/
theorem abort_waits {k : Site} {tag : Byte} {b : BurnReq} {s t : State} (ready : s.SiteReady k)
    (burn : (s.site k).burn = some b) (cmd : (s.site k).cmd = none) (wait : ∀ a ∈ (s.site k).aborts, a.waitsBurn = true)
    (ends : s.endBurnLane k = t) (sites : t.sites = s.sites) :
    exec (.abort k tag) s = .next (t.withSites (s.sites.set k { s.site k with
      aborts := (s.site k).aborts ++ [{ tag := tag, waitsCmd := false, waitsBurn := true }] })) := by
  have work : s.endSiteWork k true = t.withSites (s.sites.set k (s.site k)) := by
    rw [State.endSiteWork, State.endCmdLane_none cmd, ends, State.site, ← sites]
    exact (State.withSites_self k t).symm
  rw [exec_abort_ready ready]
  refine congrArg _ (State.takeAbort_eq work
    (SiteLink.abortTaken_waits (fun a mem => .inr (wait a mem)) ?_ ?_ (.inr rfl)))
  · rw [cmd]
    rfl
  · rw [burn]
    rfl

/-- What follows a lookup access, by the link that it leaves (R160). -/
theorem State.lookupTaken_set {k : Site} {p : Pos} {x : Four SiteLink} {sl : SiteLink} {s v : State}
    (access : s.lookupAccess k p = v.withSites (x.set k sl)) :
    s.lookupTaken k p = v.withSites (x.set k sl.lookupTaken) := by
  rw [State.lookupTaken, access, State.modSite_eq, State.site_withSites, State.withSites_sites, Four.get_set_same,
    Four.set_set, State.withSites_withSites]

/-- The lookup that one ABORT found, of a position without a record (R48, R160, log 44). -/
theorem abort_lookup {k : Site} {tag : Byte} {q : PrepReq} {rest : List PortEntry} {m : Nat} {s v : State}
    (powered : s.powered = true) (running : s.fu.partStopped = false) (cmd : (s.site k).cmd = some q)
    (phase : q.phase = .lookup) (marked : q.aborted = true)
    (alone : (s.site k).aborts = [{ tag := tag, waitsCmd := true, waitsBurn := false }])
    (front : s.port = { access := .lookup, site := k, moment := m } :: rest) (unknown : s.drt.lookup q.pos = none)
    (room : s.drt.records.length < 8192) (free : (s.chan k).freeSlot ≠ none) :
    (s.sweepAwaited k = false → s.draw k = (v, .waits) →
      exec (.prepareLookup k) s = .next { v with
        drt := s.drt.create q.pos k s.lc.clock
        port := rest ++ [{ access := .clearing s.drt.records.length, site := k, moment := s.now }]
        sites := s.sites.set k { s.site k with cmd := none, aborts := [], io := { (s.site k).io with
          replies := (s.site k).io.replies ++ [⟨0x01, q.tag, [89]⟩, ⟨0x04, tag, [0]⟩] } } }) ∧
    ∀ n, s.draw k = (v, .drawn n) →
      exec (.prepareLookup k) s = .next { v with
        drt := s.drt.create q.pos k s.lc.clock
        port := rest ++ [{ access := .binding, site := k, moment := s.now }]
        sites := s.sites.set k { s.site k with
          cmd := some { q with phase := .binding s.drt.records.length n, aborted := false }
          aborts := []
          io := { (s.site k).io with replies := (s.site k).io.replies ++ [⟨0x04, tag, [0]⟩] } } } := by
  rw [exec_prepareLookup powered front, State.prepareAccess_lookup (by exact cmd) phase]
  refine ⟨fun unswept draw => ?_, fun n draw => ?_⟩
  · obtain ⟨sites, now⟩ := State.draw_sites draw
    have site : v.site k = s.site k := congrArg (Four.get · k) sites
    have answered : (s.site k).answerCmd 89 [] = { s.site k with cmd := none, aborts := [], io := { (s.site k).io with
        replies := (s.site k).io.replies ++ [⟨0x01, q.tag, [89]⟩, ⟨0x04, tag, [0]⟩] } } := by
      rw [SiteLink.answerCmd, cmd]
      dsimp only
      rw [SiteLink.settleAborts_split (wait := []) (done := [{ tag := tag, waitsCmd := false, waitsBurn := false }])
        (by rw [alone]; rfl) (by simp [AbortWait.ready]) (by simp)]
      simp only [LinkIo.push, List.append_assoc, List.cons_append, List.nil_append, List.map_cons, List.map_nil]
    have access : (s.withPort rest).lookupAccess k q.pos =
        ({ v with
          drt := s.drt.create q.pos k s.lc.clock
          port := rest ++ [{ access := .clearing s.drt.records.length, site := k, moment := s.now }] } :
            State).withSites (s.sites.set k ((s.site k).answerCmd 89 [])) := by
      rw [State.lookupAccess_creates unknown room free, State.drawStep_aborted running cmd marked draw, unswept,
        Bool.not_false, State.endAborted_true, State.endClaimed_eq, ← now, ← sites, ← site]
      rfl
    rw [State.lookupTaken_eq access, answered]
    · rfl
    · rw [State.site_withSites, Four.get_set_same, SiteLink.answerCmd_free]
      rintro _ ⟨⟩
  · have access : (s.withPort rest).lookupAccess k q.pos = _ :=
      (State.lookupAccess_creates unknown room free).trans (State.drawStep_drawn running cmd draw)
    have found : SiteLink.lookupTaken
        { s.site k with cmd := some { q with phase := .binding s.drt.records.length n } } =
        { s.site k with
          cmd := some { q with phase := .binding s.drt.records.length n, aborted := false }
          aborts := []
          io := { (s.site k).io with replies := (s.site k).io.replies ++ [⟨0x04, tag, [0]⟩] } } :=
      SiteLink.lookupTaken_alone
        (sl := { s.site k with cmd := some { q with phase := .binding s.drt.records.length n } })
        (q := { q with phase := .binding s.drt.records.length n }) rfl marked alone
    refine (congrArg _ (State.lookupTaken_set (x := s.sites) (v := { v with
      drt := s.drt.create q.pos k s.lc.clock
      port := rest ++ [{ access := .binding, site := k, moment := s.now }] }) access)).trans ?_
    rw [found]
    rfl

/-- Settles O21: the ABORT by what the lanes hold, the lookup it found, and how far it reaches. -/
theorem abortEndsTheWaitingDraw : Obligations.AbortEndsTheWaitingDraw := by
  refine ⟨fun k tag s ready burn alone => ⟨fun cmd => ?nothing, fun q cmd => ?prepare⟩,
    fun k tag q b s ready cmd burn => ?both, fun k tag b s ready cmd burn wait goes => ?waits,
    fun k tag b s ready cmd alone burn => ⟨fun waits => ?waitsCal, fun l x goes burning taking => ?burns⟩, ?lookup,
    fun k j tag s t hj run => ?reach⟩
  case nothing =>
    rw [exec_abort_ready ready]
    refine congrArg _ (State.takeAbort_same (State.endSiteWork_free cmd burn _)
      (SiteLink.abortTaken_done alone ?_ burn))
    rw [cmd]
    rfl
  case prepare =>
    obtain ⟨claimed, held, through, lookup⟩ := abort_prepare (tag := tag) ready burn alone cmd
    exact ⟨fun i phase => ⟨_, claimed i phase, Four.get_set_same .., fun j hj => Four.get_set_ne _ _ hj, rfl, rfl⟩,
      held, through, lookup⟩
  case both =>
    obtain ⟨claimed, beside⟩ := abort_both (tag := tag) ready cmd burn
    exact ⟨claimed, fun goes runs wait phase => (beside goes runs wait).1 phase,
      fun phase goes runs wait => (beside goes runs wait).2 phase⟩
  case reach =>
    have reaches := exec_abort_reaches run
    have frame := reaches.frame
    exact ⟨reaches.sites j hj, reaches.channels j hj, (congrArg State.sa frame :), (congrArg State.js frame :),
      (congrArg State.ps frame :), (congrArg State.wt frame :), (congrArg State.lc frame :),
      (congrArg State.drt frame :), (congrArg State.sup frame :)⟩
  case waits =>
    refine ⟨fun runs => ?_, fun idle => ?_⟩
    · exact (abort_waits ready burn cmd wait (State.endBurnLane_runsOut burn goes runs) rfl).trans rfl
    · refine (abort_waits ready burn cmd wait ?_ rfl).trans rfl
      rw [State.endBurnLane_burns burn goes, State.interruptBurn_idle idle]
  case waitsCal =>
    rw [exec_abort_ready ready]
    refine congrArg _ (State.takeAbort_eq (v := s) (sl := { s.site k with burn := none, io := { (s.site k).io with
      replies := (s.site k).io.replies ++ [⟨0x03, b.tag, [89]⟩] } }) ?_ ?_)
    · rw [State.endSiteWork, State.endCmdLane_none cmd, State.endBurnLane_waitsCal burn waits, State.answerBurn_eq,
        SiteLink.answerBurn_alone burn alone]
    · rw [SiteLink.abortTaken_done (by exact alone) (by rw [cmd]; rfl) rfl]
      simp only [List.append_assoc, List.cons_append, List.nil_append]
  case burns =>
    refine ⟨fun r state record => ?_, fun ends => ?_⟩
    · rw [exec_abort_ready ready]
      refine ⟨_, congrArg _ (State.takeAbort_eq (v := s.withChans (s.chans.set k ((s.chan k).unburned l .aborted)))
        (sl := { s.site k with burn := none, io := { (s.site k).io with
          replies := (s.site k).io.replies ++ [⟨0x03, b.tag, 89 :: (s.chan k).unwrittenWords x r 0⟩] } }) ?_
            (SiteLink.abortTaken_done (by exact alone) (by rw [cmd]; rfl) rfl)), ?_, ?_,
        fun j hj => ⟨Four.get_set_ne _ _ hj, Four.get_set_ne _ _ hj⟩, rfl⟩
      · rw [State.endSiteWork, State.endCmdLane_none cmd,
          State.endBurnLane_before burn goes state burning taking record, State.answerBurn_eq, State.site_withChans,
          SiteLink.answerBurn_alone burn alone]
        rfl
      · rw [State.chan_withSites, State.withChans_chan]
        exact Channel.leftBy_unburned ..
      · rw [State.site_withSites, Four.get_set_same]
        simp only [List.append_assoc, List.cons_append, List.nil_append]
        rfl
    · obtain ⟨t, eq, ended, ending, others, frame⟩ := State.endBurnLane_endsAtOnce burn goes ends burning taking
      have sites : t.sites = s.sites := (congrArg State.sites frame :)
      refine ⟨_, abort_waits ready burn cmd (by simp [alone]) eq sites, ended, ending, ?_,
        fun j hj => ⟨Four.get_set_ne _ _ hj, others j hj⟩,
        congrArg (fun u : State => { u with sites := s.sites }) frame⟩
      rw [State.site_withSites, Four.get_set_same, alone]
      rfl
  case lookup =>
    intro k tag q rest m s v a powered running cmd phase marked unswept alone front unknown room free draw
    have calm : s.sweepAwaited k = false := by
      rw [← Bool.not_eq_true, State.sweepAwaited_iff]
      rintro ⟨r, n, b, lane, task⟩
      exact unswept r n b lane task
    obtain ⟨waits, drawn⟩ := abort_lookup (v := v) powered running cmd phase marked alone front unknown room free
    exact ⟨fun h => waits calm (h ▸ draw), fun n h => drawn n (h ▸ draw)⟩

end Sys2Proof.Machine
end

section
/-!
PROOFS. The two resets and the loss of supply: O59, O60.
-/

namespace Sys2Proof.Machine

/-! ### The start-up read (R3, R28) -/

theorem lotStateOf_suspended {w : Word} : lotStateOf w = .suspended ↔ w ≠ 0 ∧ w ≠ 2 := by
  unfold lotStateOf
  split
  · next h => simp [h]
  · split
    · next h => simp [h]
    · next h0 h2 => exact ⟨fun _ => ⟨h0, h2⟩, fun _ => rfl⟩

/-- The exhausted flag after a reset (R28). -/
theorem Journal.startSa_exhausted (drawn : Nat) (j : Journal) : (j.startSa drawn).exhausted = true ↔
    j.word 0 ≠ 0 ∧ j.word 0 ≠ 2 ∧ (joinWords (j.word 4) (j.word 5)).toNat ≤ 16 * (j.word 9).toNat := by
  have read : (j.startSa drawn).exhausted =
      (lotStateOf (j.word 0) == .suspended && decide (j.header.count.toNat ≤ 16 * (j.word 9).toNat)) := rfl
  rw [read, Bool.and_eq_true, beq_iff_eq, decide_eq_true_iff, lotStateOf_suspended, and_assoc]
  rfl

/-- Settles O60. -/
theorem powerOnReadsTheJournal : Obligations.PowerOnReadsTheJournal := by
  intro s
  refine ⟨fun idle => ?powerOn, fun idle => ?loss, fun w write => ?cut⟩
  case powerOn =>
    have uncut : s.cutWrite = s := by rw [State.cutWrite, idle]
    have run : exec .powerOnReset s = .next s.powerOn := congrArg (fun t : State => Host.Outcome.next t.powerOn) uncut
    refine ⟨_, run, rfl, rfl, rfl, rfl, rfl, rfl, rfl, rfl, rfl, rfl, rfl, rfl, rfl, rfl, rfl,
      fun k => Four.get_all _ k, Journal.startSa_exhausted 0 s.js, rfl, rfl,
      rfl, rfl, rfl, rfl, rfl, rfl, rfl, rfl, rfl, rfl, rfl, rfl, rfl, rfl,
      fun k => ?_, rfl⟩
    have chan : State.reset.chan k = Channel.reset := Four.get_all _ k
    rw [chan]
    exact Four.get_map ..
  case loss =>
    have uncut : s.cutWrite = s := by rw [State.cutWrite, idle]
    have run : exec .supplyLoss s = .next (s.powerOn.withPowered false) :=
      congrArg (fun t : State => Host.Outcome.next (t.powerOn.withPowered false)) uncut
    exact ⟨_, run, rfl, rfl, rfl⟩
  case cut =>
    refine ⟨_, rfl, rfl, fun n other => ?_, fun real => ?_, ?_⟩
    · refine (State.cutWrite_word s n).trans (if_neg ?_)
      rintro ⟨w', write', same, -⟩
      cases write.symm.trans write'
      exact other same
    · exact (State.cutWrite_word s w.entry.word).trans (if_pos ⟨w, write, rfl, real⟩)
    · have kept : s.cutWrite.pending = s.pending := by
        rw [State.cutWrite, write]
        rfl
      exact kept

/-! ### The RESET line (R64, R151) -/

theorem DieRecord.lineReset_eq (r : DieRecord) : r.lineReset =
    if r.state = .burning then { r with
      state := .interrupted, lastOutcome := some .reset, holder := none, stamp := 0,
      exhausted := r.exhausted || r.attempts == 3 }
    else if r.state = .reserved then { r with holder := none } else r := by
  unfold DieRecord.lineReset
  cases state : r.state <;> rfl

/-- The counts with `n` BURNING records INTERRUPTED and `m` more marked exhausted. -/
def Counters.interruptedBy (n m : Nat) (c : Counters) : Counters :=
  { c with burning := c.burning - n, interrupted := c.interrupted + n, exhausted := c.exhausted + m }

theorem Counters.interruptedBy_interruptedBy (n m n' m' : Nat) (c : Counters) :
    (c.interruptedBy n m).interruptedBy n' m' = c.interruptedBy (n' + n) (m' + m) := by
  simp only [Counters.interruptedBy, Nat.sub_sub, Nat.add_assoc, Nat.add_comm n', Nat.add_comm m']

/-- The counts when the RESET line deals with one record. -/
theorem Counters.change_lineReset (c : Counters) (r : DieRecord) : c.change r r.lineReset =
    c.interruptedBy (if r.state = .burning then 1 else 0)
      (if r.state = .burning ∧ r.attempts = 3 ∧ r.exhausted = false then 1 else 0) := by
  by_cases burning : r.state = .burning
  · have reset : r.lineReset = { r with
        state := .interrupted, lastOutcome := some .reset, holder := none, stamp := 0
        exhausted := r.exhausted || r.attempts == 3 } := by rw [DieRecord.lineReset_eq, if_pos burning]
    have marks : ((r.exhausted || r.attempts == 3) && !r.exhausted) = true ↔ r.attempts = 3 ∧ r.exhausted = false := by
      cases r.exhausted <;> simp
    have found : ¬(r.recovered && !r.recovered) = true := by simp
    rw [reset, Counters.change]
    dsimp only
    rw [burning, if_neg RecState.noConfusion, if_neg found]
    by_cases marked : r.attempts = 3 ∧ r.exhausted = false
    · rw [if_pos (marks.mpr marked), if_pos rfl, if_pos ⟨rfl, marked⟩]
      rfl
    · rw [if_neg (marks.not.mpr marked), if_pos rfl, if_neg fun h => marked h.2]
      rfl
  · have still : r.lineReset.state = r.state ∧ r.lineReset.exhausted = r.exhausted ∧
        r.lineReset.recovered = r.recovered := by
      rw [DieRecord.lineReset_eq, if_neg burning]
      split <;> exact ⟨rfl, rfl, rfl⟩
    obtain ⟨state, exhausted, recovered⟩ := still
    rw [Counters.change_same c state exhausted recovered, if_neg burning, if_neg fun h => burning h.1]
    rfl

/-- The counts when the RESET line deals with every record (R62, R64). -/
theorem Table.lineReset_counts (d : Table) : (d.convert DieRecord.lineReset).counts =
    d.counts.interruptedBy (d.records.countP fun r => r.state = .burning)
      (d.records.countP fun r => r.state = .burning ∧ r.attempts = 3 ∧ r.exhausted = false) := by
  rw [Table.convert_counts]
  generalize d.counts = c
  induction d.records generalizing c with
  | nil => rfl
  | cons r rs ih =>
    rw [List.foldl_cons, ih, Counters.change_lineReset, Counters.interruptedBy_interruptedBy, List.countP_cons,
      List.countP_cons]
    simp only [decide_eq_true_eq]

/-- The records that the RESET line changes (R59, R64). -/
theorem DieRecord.lineReset_ne {r : DieRecord} :
    r.lineReset ≠ r ↔ r.state = .burning ∨ r.state = .reserved ∧ r.holder ≠ none := by
  rw [DieRecord.lineReset_eq]
  by_cases burning : r.state = .burning
  · rw [if_pos burning]
    refine ⟨fun _ => .inl burning, fun _ same => ?_⟩
    have state : RecState.interrupted = r.state := congrArg DieRecord.state same
    rw [burning] at state
    cases state
  · rw [if_neg burning]
    by_cases reserved : r.state = .reserved
    · rw [if_pos reserved]
      refine ⟨fun changed => .inr ⟨reserved, fun unheld => changed ?_⟩, fun held same => ?_⟩
      · rw [← unheld]
      · have unheld : none = r.holder := congrArg DieRecord.holder same
        rcases held with h | h
        · exact burning h
        · exact h.2 unheld.symm
    · rw [if_neg reserved]
      exact ⟨fun changed => absurd rfl changed, fun h => h.elim (absurd · burning) (absurd ·.1 reserved)⟩

theorem calSucceeded_iff {r : Option CalResult} :
    calSucceeded r = true ↔ r = some .calibrated ∨ r = some .limited := by
  rcases r with _ | _ | _ | _ <;> decide

theorem exec_resetLine {s : State} (powered : s.powered = true) : exec .resetLine s = .next s.resetAsserted :=
  congrArg _ (State.live_powered powered _)

/-- Settles O59. -/
theorem resetLineTakesEffect : Obligations.ResetLineTakesEffect := by
  intro s powered
  rw [exec_resetLine powered]
  refine ⟨fun writes => ?_, fun idle => ⟨s.lineReset, ?_, rfl, rfl, rfl, rfl, rfl, rfl, rfl, rfl, rfl, rfl, rfl,
    rfl, rfl, Journal.startSa_exhausted _ s.js, fun k => Four.get_all _ k, Table.convert_length ..,
    Table.convert_posMap .., fun i r record => ?_, fun p page => ?_,
    Table.lineReset_counts s.drt, rfl, rfl, fun k => ?_, rfl, rfl, rfl, rfl,
    rfl,
    rfl, rfl, rfl, fun e => Four.get_all _ e, rfl, rfl, fun k => ?_, rfl, rfl, powered, rfl, rfl⟩⟩
  · exact congrArg _ (if_pos (Option.isSome_iff_ne_none.mpr writes))
  · refine congrArg _ (if_neg ?_)
    rw [idle]
    exact Bool.false_ne_true
  · refine (Table.convert_records ..).trans ?_
    rw [record, Option.map_some, DieRecord.lineReset_eq]
  · have marks := Table.convert_marks DieRecord.lineReset s.drt page
    simp only [DieRecord.lineReset_ne] at marks
    exact marks
  · have chan : State.reset.chan k = Channel.reset := Four.get_all _ k
    rw [chan]
    refine (Four.get_map ..).trans ?_
    have state : (if calSucceeded (s.chan k).calResult = true then ChanState.idle else .uncalibrated) =
        if (s.chan k).calResult = some .calibrated ∨ (s.chan k).calResult = some .limited
          then .idle else .uncalibrated := if_congr calSucceeded_iff rfl rfl
    rw [← state]
    rfl
  · have site : State.reset.site k = SiteLink.reset := Four.get_all _ k
    rw [site]
    exact Four.get_map ..

end Sys2Proof.Machine
end

section
/-!
PROOFS. What the four sites do one after the other, and the power warning: O58.
-/

namespace Sys2Proof.Machine

/-! ### One site after the other -/

/-- `t` is `s` but for the lanes, slots and channels of the sites `ks`, the port, the derivation unit and the faults. -/
structure State.ReachesSites (ks : List Site) (s t : State) : Prop where
  sites : ∀ j, j ∉ ks → t.site j = s.site j
  channels : ∀ j, j ∉ ks → t.chan j = s.chan j
  frame : { t with chans := s.chans, sites := s.sites, port := s.port, du := s.du, fu := s.fu } = s

section

variable {f : Site → State → State}

/-- Steps that each reach one site reach no other. -/
theorem State.foldl_reaches (step : ∀ k s, State.ReachesOnly k s (f k s)) (ks : List Site) (s : State) :
    State.ReachesSites ks s (ks.foldl (fun s k => f k s) s) := by
  induction ks generalizing s with
  | nil => exact ⟨fun _ _ => rfl, fun _ _ => rfl, rfl⟩
  | cons k ks ih =>
    have one := step k s
    have rest := ih (f k s)
    exact ⟨fun j hj => (rest.sites j fun h => hj (List.mem_cons_of_mem k h)).trans
        (one.sites j fun h => hj (h ▸ List.mem_cons_self ..)),
      fun j hj => (rest.channels j fun h => hj (List.mem_cons_of_mem k h)).trans
        (one.channels j fun h => hj (h ▸ List.mem_cons_self ..)),
      (congrArg (fun v : State => { v with
        chans := s.chans, sites := s.sites, port := s.port, du := s.du, fu := s.fu }) rest.frame).trans one.frame⟩

/-- What every step keeps, all of them keep. -/
theorem State.foldl_keeps {R : State → State → Prop} (refl : ∀ s, R s s) (trans : ∀ s t u, R s t → R t u → R s u)
    (step : ∀ k s, R s (f k s)) (ks : List Site) (s : State) : R s (ks.foldl (fun s k => f k s) s) := by
  induction ks generalizing s with
  | nil => exact refl s
  | cons k ks ih => exact trans _ _ _ (step k s) (ih _)

/-- Steps that change nothing. -/
theorem State.foldl_still {ks : List Site} {s : State} (still : ∀ j ∈ ks, f j s = s) :
    ks.foldl (fun s k => f k s) s = s := by
  induction ks with
  | nil => rfl
  | cons k ks ih =>
    rw [List.foldl_cons, still k (List.mem_cons_self ..)]
    exact ih fun j hj => still j (List.mem_cons_of_mem k hj)

end

/-- The sites before one of the four, and those after it. -/
theorem allSites_split (k : Site) : ∃ a b, allSites = a ++ k :: b ∧ k ∉ a ∧ k ∉ b := by
  fin_cases k
  exacts [⟨[], [1, 2, 3], rfl, by decide, by decide⟩, ⟨[0], [2, 3], rfl, by decide, by decide⟩,
    ⟨[0, 1], [3], rfl, by decide, by decide⟩, ⟨[0, 1, 2], [], rfl, by decide, by decide⟩]

/-- The step of one of the four sites: it meets that site as it stood, and leaves it as it then stands. -/
theorem State.foldl_at {f : Site → State → State} (step : ∀ k s, State.ReachesOnly k s (f k s)) (k : Site) (s : State) :
    ∃ (a b : List Site) (u : State), u = a.foldl (fun s k => f k s) s ∧
      allSites.foldl (fun s k => f k s) s = b.foldl (fun s k => f k s) (f k u) ∧ k ∉ a ∧ k ∉ b ∧
      u.site k = s.site k ∧ u.chan k = s.chan k ∧
      (allSites.foldl (fun s k => f k s) s).site k = (f k u).site k ∧
      (allSites.foldl (fun s k => f k s) s).chan k = (f k u).chan k ∧
      { u with chans := s.chans, sites := s.sites, port := s.port, du := s.du, fu := s.fu } = s := by
  obtain ⟨a, b, split, before, after⟩ := allSites_split k
  have first := State.foldl_reaches step a s
  have last := State.foldl_reaches step b (f k (a.foldl (fun s k => f k s) s))
  have whole : allSites.foldl (fun s k => f k s) s =
      b.foldl (fun s k => f k s) (f k (a.foldl (fun s k => f k s) s)) := by
    rw [split, List.foldl_append, List.foldl_cons]
  exact ⟨a, b, _, rfl, whole, before, after, first.sites k before, first.channels k before,
    whole ▸ last.sites k after, whole ▸ last.channels k after, first.frame⟩

/-! ### What an interruption keeps -/

/-- Every access that waits, but for serial lookups, goes on waiting. -/
def State.KeepsEntries (s t : State) : Prop := ∀ e ∈ s.port, e.access ≠ .serialLookup → e ∈ t.port

theorem State.KeepsEntries.refl (s : State) : State.KeepsEntries s s := fun _ h _ => h

theorem State.KeepsEntries.trans (s t u : State) (h : State.KeepsEntries s t) (g : State.KeepsEntries t u) :
    State.KeepsEntries s u := fun e mem kind => g e (h e mem kind) kind

section

variable {k : Site} {e : Ending} {halt : Bool} {p : Pos} {s : State}

theorem State.leaveBurn_port (k : Site) (e : Ending) (halt : Bool) (p : Pos) (s : State) :
    (s.leaveBurn k e halt p).port = s.port := by
  rw [State.leaveBurn, State.reportEnding_eq]
  rfl

theorem State.keepsEntries_finishBurn : State.KeepsEntries s (s.finishBurn k e halt) := by
  unfold State.finishBurn
  split
  · exact .refl s
  · split
    · intro x mem kind
      rw [State.endWritten]
      dsimp only
      rw [State.leaveBurn_port]
      refine List.mem_append_left _ (List.mem_filter.mpr ⟨mem, ?_⟩)
      simp [kind]
    · intro x mem kind
      have port : ∀ l t, (s.endUnwritten k l t e).port = s.port := by
        intro l t
        rw [State.endUnwritten, State.answerBurn_eq]
        exact State.leaveBurn_port ..
      rw [port]
      exact mem

theorem State.keepsEntries_interruptBurn : State.KeepsEntries s (s.interruptBurn k e) := by
  unfold State.interruptBurn
  dsimp only
  cases (s.chan k).state
  case waiting | qualifying | adoptWait => exact State.keepsEntries_finishBurn
  case checking =>
    dsimp only
    split
    · exact State.keepsEntries_finishBurn
    · exact .refl s
  case programming | locking =>
    dsimp only
    split
    · exact .refl s
    · exact State.keepsEntries_finishBurn
  all_goals exact .refl s

/-- A fault latch that is set stays set. -/
def State.KeepsLatch (s t : State) : Prop := s.fu.latch = true → t.fu.latch = true

theorem State.keepsLatch_leaveBurn : State.KeepsLatch s (s.leaveBurn k e halt p) := by
  intro latch
  have reported : (s.reportEnding k e halt p).fu.latch = true := by
    unfold State.reportEnding
    cases e.fault <;> dsimp only
    · split
      · rfl
      · exact latch
    · rfl
  exact reported

theorem State.keepsLatch_finishBurn : State.KeepsLatch s (s.finishBurn k e halt) := by
  unfold State.finishBurn
  split
  · exact id
  · intro latch
    split
    · rw [State.endWritten]
      exact State.keepsLatch_leaveBurn latch
    · rw [State.endUnwritten, State.answerBurn_eq]
      exact State.keepsLatch_leaveBurn latch

/-! ### A burn under a power warning (R122) -/

/-- Past its blank-check start a burn either runs out or ends at once. -/
theorem Channel.runsOut_or_endsAtOnce {c : Channel} (past : c.state.past = true) :
    c.runsOut = true ∨ c.endsAtOnce = true := by
  unfold Channel.runsOut Channel.endsAtOnce Channel.pulsing
  cases state : c.state
  case checking => cases c.lookupWait <;> simp
  case programming | locking => cases c.driving <;> cases c.measuring <;> simp
  case adoptWait | verifying => simp
  all_goals simp [state, ChanState.past] at past

theorem Channel.past_of_runsOut {c : Channel} (runs : c.runsOut = true) : c.state.past = true := by
  simp only [Channel.runsOut, Channel.pulsing, Bool.or_eq_true, Bool.and_eq_true, beq_iff_eq] at runs
  rcases runs with (state | ⟨state, -⟩) | ⟨state | state, -⟩ <;> rw [state] <;> rfl

theorem State.warnBurn_runsOut (runs : (s.chan k).runsOut = true) : s.warnBurn k =
    s.withChans (s.chans.set k { s.chan k with ending := some ((s.chan k).ending.getD .powerWarning) }) := by
  rw [State.warnBurn, if_pos (Channel.past_of_runsOut runs), State.interruptBurn_runsOut runs, State.fixEnding_eq]

theorem State.warnBurn_endsAtOnce (ends : (s.chan k).endsAtOnce = true) :
    s.warnBurn k = s.finishBurn k .powerWarning false := by
  rw [State.warnBurn, if_pos (Channel.past_of_endsAtOnce ends), State.interruptBurn_endsAtOnce ends]

theorem State.warnBurn_stays (runs : (s.chan k).runsOut = false) (ends : (s.chan k).endsAtOnce = false) :
    s.warnBurn k = s := by
  refine if_neg fun past => ?_
  rcases Channel.runsOut_or_endsAtOnce past with h | h
  · exact Bool.false_ne_true (runs.symm.trans h)
  · exact Bool.false_ne_true (ends.symm.trans h)

/-- A burn that does not end at once leaves port, derivation unit and faults. -/
theorem State.warnBurn_calm (ends : (s.chan k).endsAtOnce = false) :
    ∃ c : Channel, s.warnBurn k = s.withChans (s.chans.set k c) ∧ c.endsAtOnce = false := by
  cases runs : (s.chan k).runsOut with
  | true => exact ⟨_, State.warnBurn_runsOut runs, ends⟩
  | false => exact ⟨s.chan k, (State.warnBurn_stays runs ends).trans (State.withChans_self k s).symm, ends⟩

theorem State.reaches_warnBurn (k : Site) (s : State) : State.ReachesOnly k s (s.warnBurn k) := by
  unfold State.warnBurn
  split
  · exact State.reaches_interruptBurn _ s
  · exact .refl k s

theorem State.keepsEntries_warnBurn (k : Site) (s : State) : State.KeepsEntries s (s.warnBurn k) := by
  unfold State.warnBurn
  split
  · exact State.keepsEntries_interruptBurn
  · exact .refl s

theorem State.keepsLatch_warnBurn (k : Site) (s : State) : State.KeepsLatch s (s.warnBurn k) := by
  cases ends : (s.chan k).endsAtOnce with
  | true =>
    rw [State.warnBurn_endsAtOnce ends]
    exact State.keepsLatch_finishBurn
  | false =>
    obtain ⟨c, eq, -⟩ := State.warnBurn_calm ends
    rw [eq]
    exact id

/-- A power warning answers no BURN itself. -/
theorem State.warnBurn_sites (k : Site) (s : State) : (s.warnBurn k).sites = s.sites := by
  cases ends : (s.chan k).endsAtOnce with
  | true =>
    rw [State.warnBurn_endsAtOnce ends, State.finishBurn]
    split
    · rfl
    · rw [if_pos (Channel.past_of_endsAtOnce ends), State.endWritten]
      dsimp only
      rw [State.leaveBurn, State.reportEnding_eq]
      rfl
  | false =>
    obtain ⟨c, eq, -⟩ := State.warnBurn_calm ends
    rw [eq]
    rfl

/-- A burn that a power warning ends at once: fault 61 (R122). -/
theorem State.warnBurn_ended {l : SlotId} {x : Taking} (ends : (s.chan k).endsAtOnce = true)
    (burning : (s.chan k).burning = some l) (taking : ((s.chan k).slot l).taking = some x) :
    Channel.EndedBy l x .powerWarning false (s.chan k) ((s.warnBurn k).chan k) ∧
    State.EndsAt k .ending s (s.warnBurn k) ∧
    (s.warnBurn k).fu = s.fu.take ⟨61, some k, some x.pos, 0x03, s.lc.clock⟩ := by
  obtain ⟨ended, ending, fu, -, -⟩ := State.finishBurn_past .powerWarning false burning taking
    (Channel.past_of_endsAtOnce ends)
  rw [State.warnBurn_endsAtOnce ends]
  exact ⟨ended, ending, fu.trans (State.reportEnding_fixed (.inr (.inl rfl)) ..)⟩

/-- Under a power warning no burn comes to end at once. -/
theorem State.warnBurn_endsAtOnce_other (k : Site) (s : State) :
    ∀ j, (s.chan j).endsAtOnce = false → ((s.warnBurn k).chan j).endsAtOnce = false := by
  intro j calm
  by_cases same : j = k
  · subst same
    obtain ⟨c, eq, still⟩ := State.warnBurn_calm calm
    rw [eq, State.withChans_chan]
    exact still
  · rw [(State.reaches_warnBurn k s).channels j same]
    exact calm

end

/-- Sites whose burns do not end at once leave port, derivation unit and faults. -/
theorem State.foldl_warnBurn_calm {ks : List Site} {s : State} (calm : ∀ j ∈ ks, (s.chan j).endsAtOnce = false) :
    (ks.foldl (fun s k => s.warnBurn k) s).port = s.port ∧ (ks.foldl (fun s k => s.warnBurn k) s).du = s.du ∧
    (ks.foldl (fun s k => s.warnBurn k) s).fu = s.fu := by
  induction ks generalizing s with
  | nil => exact ⟨rfl, rfl, rfl⟩
  | cons k ks ih =>
    obtain ⟨c, eq, still⟩ := State.warnBurn_calm (calm k (List.mem_cons_self ..))
    rw [List.foldl_cons, eq]
    refine ih fun j hj => ?_
    by_cases same : j = k
    · rw [same, State.withChans_chan]
      exact still
    · rw [State.withChans_chan_ne same]
      exact calm j (List.mem_cons_of_mem k hj)

/-- The state in which an assertion of PWRWARN meets the burns (R149, R177). -/
def State.warnedJournal (s : State) : State :=
  { s with
    pwrwarn := true
    js := { s.js with held := true, warningSeen := true }
    fu := { s.fu with flags := { s.fu.flags with power := true } } }

theorem exec_pwrwarnAssert {s : State} (powered : s.powered = true) (calm : s.pwrwarn = false) :
    exec .pwrwarnAssert s = .next (allSites.foldl (fun s k => s.warnBurn k) s.warnedJournal) := by
  have taken : exec .pwrwarnAssert s = .next ((s.withPwrwarn true).live State.warned) :=
    congrArg _ (if_neg (by simp [calm]))
  rw [taken, State.live_powered (by exact powered)]
  rfl

/-! ### The end of a power warning (R150) -/

theorem countRideThrough_new {q : List JEntry} (none : ∀ e ∈ q, ∀ n, e ≠ .rideThrough n) :
    countRideThrough q = q ++ [.rideThrough 1] := by
  induction q with
  | nil => rfl
  | cons e q ih =>
    have rest := ih fun x hx => none x (List.mem_cons_of_mem e hx)
    cases e with
    | rideThrough n => exact absurd rfl (none _ (List.mem_cons_self ..) n)
    | header | lotState | wafer | advance => exact congrArg (_ :: ·) rest

theorem countRideThrough_raised {a b : List JEntry} {n : Nat} (none : ∀ e ∈ a, ∀ m, e ≠ .rideThrough m) :
    countRideThrough (a ++ .rideThrough n :: b) = a ++ .rideThrough (min 65535 (n + 1)) :: b := by
  induction a with
  | nil => rfl
  | cons e a ih =>
    have rest := ih fun x hx => none x (List.mem_cons_of_mem e hx)
    cases e with
    | rideThrough m => exact absurd rfl (none _ (List.mem_cons_self ..) m)
    | header | lotState | wafer | advance => exact congrArg (_ :: ·) rest

/-- The queue that a deassertion leaves (R150). -/
theorem Journal.released_queue {j : Journal} {Q : List JEntry}
    (h : (j.warningSeen = false ∨ j.stopped = true) ∧ Q = j.queue ∨
      j.warningSeen = true ∧ j.stopped = false ∧ (∀ e ∈ j.queue, ∀ n, e ≠ .rideThrough n) ∧
        Q = j.queue ++ [.rideThrough 1] ∨
      j.warningSeen = true ∧ j.stopped = false ∧ (∃ a n b, j.queue = a ++ .rideThrough n :: b ∧
        (∀ e ∈ a, ∀ m, e ≠ .rideThrough m) ∧ Q = a ++ .rideThrough (min 65535 (n + 1)) :: b)) :
    j.released = { j with held := false, warningSeen := false, queue := Q } := by
  rw [Journal.released]
  rcases h with ⟨unseen, rfl⟩ | ⟨seen, runs, none, rfl⟩ | ⟨seen, runs, a, n, b, queue, none, rfl⟩
  · rw [if_neg (by rcases unseen with h | h <;> simp [h])]
  · rw [if_pos (by simp [seen, runs]), countRideThrough_new none]
  · rw [if_pos (by simp [seen, runs]), queue, countRideThrough_raised none]

section

variable {k : Site} {s : State}

/-- A qualification that does not stand at settle is left (R106). -/
theorem State.beginHeldCheck_still (counts : ∀ sn, (s.chan k).state = .qualifying → (s.chan k).snapshot = some sn →
    (s.chan k).qualCounter < sn.profile.settle) : s.beginHeldCheck k = s := by
  unfold State.beginHeldCheck
  dsimp only
  split
  · next sn state snapshot => exact if_neg (Nat.not_le.mpr (counts sn state snapshot))
  · rfl

theorem State.beginHeldCheck_begins {sn : Snapshot} (state : (s.chan k).state = .qualifying)
    (snapshot : (s.chan k).snapshot = some sn) (settled : (s.chan k).qualCounter = sn.profile.settle) :
    s.beginHeldCheck k = s.startCheck k := by
  unfold State.beginHeldCheck
  dsimp only
  rw [state, snapshot]
  exact if_pos settled.ge

/-- The beginning of a blank check lets no qualification of another channel reach its settle. -/
theorem State.startCheck_qualifies {j : Site} (other : j ≠ k)
    (state : ((s.startCheck k).chan j).state = .qualifying) : (s.chan j).state = .qualifying ∧
      ((s.startCheck k).chan j).qualCounter = (s.chan j).qualCounter ∧
      ((s.startCheck k).chan j).snapshot = (s.chan j).snapshot := by
  have chan : (s.startCheck k).chan j = (s.drainFor k true).chan j := by
    rw [State.startCheck, State.beginBlankCheck]
    split
    · rfl
    · rw [State.modRecord_eq, State.chan_withDrt]
      exact State.modChan_chan_ne _ _ other
  rw [chan] at state ⊢
  exact (State.took_drainFor k true s).qualifies j state

/-- A completion of a qualification whose count stands at settle. -/
theorem exec_qualificationComplete_settled {sn : Snapshot} (powered : s.powered = true) (calm : s.pwrwarn = false)
    (state : (s.chan k).state = .qualifying) (closed : (s.chan k).contact = true)
    (snapshot : (s.chan k).snapshot = some sn) (settled : (s.chan k).qualCounter = sn.profile.settle) :
    exec (.qualificationComplete k) s = .next (s.startCheck k) := by
  have counted : ({ s.chan k with qualCounter := sn.profile.settle } : Channel) = s.chan k := by rw [← settled]
  rw [exec_qualificationComplete powered, State.qualified_eq state closed snapshot, if_neg (by simp [calm]), counted,
    State.withChans_self]

end

/-- A burn that ends at once under the assertion, as all four sites leave it (R122). -/
theorem warned_ended {k : Site} {l : SlotId} {x : Taking} {s t : State}
    (ht : t = allSites.foldl (fun s k => s.warnBurn k) s.warnedJournal) (ends : (s.chan k).endsAtOnce = true)
    (burning : (s.chan k).burning = some l) (taking : ((s.chan k).slot l).taking = some x) :
    Channel.EndedBy l x .powerWarning false (s.chan k) (t.chan k) ∧
    { access := .ending, site := k, moment := s.now } ∈ t.port ∧ t.fu.latch = true ∧
    ((∀ j, j ≠ k → (s.chan j).endsAtOnce = false) → State.EndsAt k .ending s t ∧
      t.fu = FaultUnit.take ⟨61, some k, some x.pos, 0x03, s.lc.clock⟩
        { s.fu with flags := { s.fu.flags with power := true } }) := by
  obtain ⟨a, b, u, hu, whole, before, after, -, chan, -, left, frame⟩ :=
    State.foldl_at (f := fun k s => s.warnBurn k) State.reaches_warnBurn k s.warnedJournal
  rw [← ht] at whole left
  have here : u.chan k = s.chan k := chan
  have now : u.now = s.now := (congrArg State.now frame :)
  have lc : u.lc = s.lc := (congrArg State.lc frame :)
  obtain ⟨ended, ⟨port, du⟩, fu⟩ := State.warnBurn_ended (s := u) (by rw [here]; exact ends)
    (by rw [here]; exact burning) (by rw [here]; exact taking)
  rw [here] at ended
  rw [now] at port
  have latch : (u.warnBurn k).fu.latch = true := congrArg FaultUnit.latch fu
  refine ⟨left ▸ ended, ?_, ?_, fun calm => ?_⟩
  · rw [whole]
    refine State.foldl_keeps (f := fun k s => s.warnBurn k) State.KeepsEntries.refl State.KeepsEntries.trans
      State.keepsEntries_warnBurn b _ _ ?_ (fun h => Access.noConfusion h)
    rw [port]
    exact List.mem_append_right _ (List.mem_singleton_self _)
  · rw [whole]
    exact State.foldl_keeps (f := fun k s => s.warnBurn k) (R := State.KeepsLatch) (fun _ => id)
      (fun _ _ _ h g => g ∘ h) State.keepsLatch_warnBurn b _ latch
  · have first := State.foldl_warnBurn_calm (ks := a) (s := s.warnedJournal) fun j hj =>
      calm j fun same => before (same ▸ hj)
    have others := State.foldl_keeps (f := fun k s => s.warnBurn k)
      (R := fun s t => ∀ j, (s.chan j).endsAtOnce = false → (t.chan j).endsAtOnce = false) (fun _ _ => id)
      (fun _ _ _ h g j => g j ∘ h j) State.warnBurn_endsAtOnce_other a s.warnedJournal
    have last := State.foldl_warnBurn_calm (ks := b) (s := u.warnBurn k) fun j hj => by
      have other : j ≠ k := fun same => after (same ▸ hj)
      rw [(State.reaches_warnBurn k u).channels j other, hu]
      exact others j (calm j other)
    rw [← hu] at first
    rw [← whole] at last
    obtain ⟨port0, du0, fu0⟩ := first
    obtain ⟨port1, du1, fu1⟩ := last
    refine ⟨⟨port1.trans (port.trans ?_), du1.trans (du.trans ?_)⟩, fu1.trans (fu.trans ?_)⟩
    · rw [port0]
      rfl
    · rw [du0]
      rfl
    · rw [fu0, lc]
      rfl

/-- Settles O58. -/
theorem powerWarningHoldsTheJournal : Obligations.PowerWarningHoldsTheJournal := by
  refine ⟨fun s powered calm => ?assert, fun Q s u powered warned queue hu => ?deassert⟩
  case assert =>
    have reach := State.foldl_reaches (f := fun k s => s.warnBurn k) State.reaches_warnBurn allSites s.warnedJournal
    have sites := State.foldl_keeps (f := fun k s => s.warnBurn k) (R := fun s t => t.sites = s.sites) (fun _ => rfl)
      (fun _ _ _ h g => g.trans h) State.warnBurn_sites allSites s.warnedJournal
    have meets := State.foldl_at (f := fun k s => s.warnBurn k) State.reaches_warnBurn
    refine ⟨_, exec_pwrwarnAssert powered calm, (congrArg State.pwrwarn reach.frame :),
      (congrArg State.js reach.frame :),
      fun k runs => ?_, fun k runs ends => ?_, fun k l x => warned_ended rfl, fun quiet => ?_, ?_⟩
    · obtain ⟨a, b, u, -, -, -, -, -, chan, -, left, -⟩ := meets k s.warnedJournal
      have here : u.chan k = s.chan k := chan
      rw [left, State.warnBurn_runsOut (by rw [here]; exact runs), State.withChans_chan, here]
    · obtain ⟨a, b, u, -, -, -, -, -, chan, -, left, -⟩ := meets k s.warnedJournal
      have here : u.chan k = s.chan k := chan
      rw [left, State.warnBurn_stays (by rw [here]; exact runs) (by rw [here]; exact ends), here]
    · exact State.foldl_warnBurn_calm (s := s.warnedJournal) fun j _ => quiet j
    · generalize allSites.foldl (fun s k => s.warnBurn k) s.warnedJournal = t at reach sites ⊢
      have whole : ({ t with chans := s.chans, port := s.port, du := s.du, fu := s.warnedJournal.fu } : State) =
          s.warnedJournal := by
        rw [← reach.frame, ← sites]
        rfl
      exact congrArg (fun v : State => { v with pwrwarn := s.pwrwarn, js := s.js, fu := s.fu }) whole
  case deassert =>
    have begun : exec .pwrwarnDeassert s = .next (allSites.foldl (fun s k => s.beginHeldCheck k) u) := by
      have taken : exec .pwrwarnDeassert s = .next ((s.withPwrwarn false).live State.unwarned) :=
        congrArg _ (if_pos warned)
      have start : (((s.withPwrwarn false).withJs s.js.released).modFlags AlertFlags.setPower).jsStart = u := by
        rw [State.jsStart_eq, Journal.released_queue queue, hu]
        rfl
      rw [taken, State.live_powered (by exact powered), State.unwarned]
      exact congrArg (fun v => Host.Outcome.next (allSites.foldl (fun s k => s.beginHeldCheck k) v)) start
    have chans : u.chans = s.chans := by rw [hu]
    have chan (j : Site) : u.chan j = s.chan j := congrArg (Four.get · j) chans
    rw [begun]
    refine ⟨fun counts => congrArg _ (State.foldl_still (f := fun k s => s.beginHeldCheck k) fun k _ => ?_),
      fun k sn state snapshot settled closed others => ?_⟩
    · exact State.beginHeldCheck_still (by rw [chan]; exact counts k)
    · obtain ⟨a, b, split, before, after⟩ := allSites_split k
      have still (j : Site) (hj : j ≠ k) : u.beginHeldCheck j = u :=
        State.beginHeldCheck_still (by rw [chan]; exact fun sn' => others j sn' hj)
      have later (j : Site) (hj : j ≠ k) : (u.startCheck k).beginHeldCheck j = u.startCheck k := by
        refine State.beginHeldCheck_still fun sn' qualifying taken => ?_
        obtain ⟨state', count, offered⟩ := State.startCheck_qualifies hj qualifying
        rw [count, chan]
        rw [chan] at state' offered
        exact others j sn' hj state' (offered.symm.trans taken)
      rw [split, List.foldl_append, List.foldl_cons,
        State.foldl_still (f := fun k s => s.beginHeldCheck k) fun j hj => still j fun same => before (same ▸ hj),
        State.beginHeldCheck_begins (by rw [chan]; exact state) (by rw [chan]; exact snapshot)
          (by rw [chan]; exact settled),
        State.foldl_still (f := fun k s => s.beginHeldCheck k) fun j hj => later j fun same => after (same ▸ hj)]
      refine (exec_qualificationComplete_settled ?_ ?_ (by rw [chan]; exact state) (by rw [chan]; exact closed)
        (by rw [chan]; exact snapshot) (by rw [chan]; exact settled)).symm
      · rw [hu]
        exact powered
      · rw [hu]

end Sys2Proof.Machine
end

section
/-!
PROOFS. A journal try's end: O56.
-/

namespace Sys2Proof.Machine

/-- The journal store with the word of the write in progress as read back, and the write ended. -/
def Journal.ended (w : JWrite) (v : Word) (j : Journal) : Journal :=
  { j with words := j.words.setIfInBounds w.entry.word v, write := none }

section

variable {w : JWrite} {v : Word} {s : State}

theorem exec_journalTryEnd (powered : s.powered = true) (write : s.js.write = some w) (tries : w.phase ≠ .finalErase) :
    exec (.journalTryEnd v) s = .next
      (if v = w.value then ((s.withJs (s.js.ended w v)).handOn w.entry w.value).writeEnded
      else s.withJs { s.js.ended w v with
        write := some (if w.second then { w with phase := .finalErase, elapsed := 0 }
          else { w with second := true, phase := .erase, elapsed := 0 }) }) := by
  refine congrArg _ ((State.live_powered powered _).trans ?_)
  rw [State.tryEnded, write]
  dsimp only
  rw [if_neg tries]
  by_cases same : v = w.value
  · rw [if_pos same, if_pos same]
    rfl
  · rw [if_neg same, if_neg same]
    cases w.second <;> rfl

/-! ### What a completed write hands on (R143) -/

theorem State.writeEnded_runs (free : s.resetWaiting = false) :
    s.writeEnded = s.withJs (Journal.begun s.sa.mark s.js) := by
  rw [State.writeEnded, free]
  exact State.jsStart_eq s

/-- A LOAD WAFER that a waiting RESET line cuts off goes on waiting (log 21). -/
theorem State.loadCheck_reset (waits : s.resetWaiting = true) : s.loadCheck = s := by
  unfold State.loadCheck
  split
  · rfl
  · exact if_neg (by simp [waits])

/-- Of what is handed on while a RESET line waits, the reset leaves the serials drawn of OPEN (R5, R151). -/
theorem State.handOn_reset (e : JEntry) (value : Word) (waits : s.resetWaiting = true) :
    (s.handOn e value).writeEnded =
      State.lineReset { s with sa := { s.sa with drawn := if e = .lotState 1 then 0 else s.sa.drawn } } := by
  cases e with
  | header n x =>
    rw [if_neg JEntry.noConfusion]
    exact if_pos waits
  | lotState x =>
    rw [State.handOn]
    by_cases opens : x = 1
    · subst opens
      rw [if_pos rfl, if_pos rfl]
      exact if_pos waits
    · rw [if_neg opens, if_neg (fun h => opens (JEntry.lotState.inj h))]
      exact if_pos waits
  | wafer x =>
    rw [if_neg JEntry.noConfusion, State.handOn, State.completeWafer, State.loadCheck_reset (by exact waits)]
    exact if_pos waits
  | advance k =>
    rw [if_neg JEntry.noConfusion, State.handOn, if_pos waits]
    exact if_pos waits
  | rideThrough n =>
    rw [if_neg JEntry.noConfusion]
    exact if_pos waits

/-- A completed OPEN (R5, R34). -/
theorem State.completeOpen_eq {q : SupReqState} (lane : s.sup.lane = some q) : s.completeOpen = { s with
    lc := { s.lc with lotState := .isOpen }
    sa := Allocator.reset
    sup := { lane := none, io := { s.sup.io with replies := s.sup.io.replies ++
      [⟨q.kind, q.tag, [0, s.lc.header.lotTag, s.lc.header.fp1, s.lc.header.fp2]⟩] } } } := by
  rw [State.completeOpen, State.supAnswer_held (q := q) (by exact lane)]
  rfl

/-- A completed CLOSED (R10, R34). -/
theorem State.completeClose_eq {q : SupReqState} (lane : s.sup.lane = some q) : s.completeClose = { s with
    lc := { s.lc with secret := none, lotState := .closed }
    sa := { s.sa with exhausted := false }
    sup := { lane := none, io := { s.sup.io with replies := s.sup.io.replies ++
      [⟨q.kind, q.tag, 0 :: s.closeReport⟩] } } } := by
  rw [State.completeClose, State.supAnswer_held (q := q) (by exact lane)]
  rfl

theorem SiteBlocks.usable_isSome {b : SiteBlocks} :
    b.usable.isSome = true ↔ ∃ c ∈ b.current, c.next < c.stop := by
  unfold SiteBlocks.usable
  cases b.current with
  | none => simp
  | some c =>
    dsimp only
    split <;> simp_all

/-- A completed advance: the mark is raised and the block is placed as the site's current or READY block (R23). -/
theorem State.placeBlock_eq (k : Site) (b : Nat) (s : State) : s.placeBlock k b = s.withSa { s.sa with
    mark := b + 1
    outstanding := s.sa.outstanding - 1
    blocks := s.sa.blocks.set k (if ∃ c ∈ (s.sa.blocks.get k).current, c.next < c.stop
      then { s.sa.blocks.get k with
        next := .ready (blockOf s.lc.header b).next (blockOf s.lc.header b).stop }
      else { current := some (blockOf s.lc.header b), next := .absent }) } := by
  rw [State.placeBlock]
  dsimp only
  rw [← if_congr SiteBlocks.usable_isSome rfl rfl]
  cases (s.sa.blocks.get k).usable <;> rfl

/-- An advance that no draw waits for (R23). -/
theorem State.completeAdvance_placed {k : Site} {b : Nat}
    (calm : ∀ q i, (s.site k).cmd = some q → q.phase ≠ .waitBlock i) : s.completeAdvance k b = s.placeBlock k b := by
  unfold State.completeAdvance
  cases cmd : (s.site k).cmd with
  | none => rfl
  | some q =>
    dsimp only
    split
    · next i phase => exact absurd phase (calm q i cmd)
    all_goals rfl

/-- An advance that resumes a draw (R25). -/
theorem State.completeAdvance_resumes {k : Site} {b i : Nat} {q : PrepReq} (cmd : (s.site k).cmd = some q)
    (phase : q.phase = .waitBlock i) : s.completeAdvance k b = (s.placeBlock k b).drawStep k i := by
  unfold State.completeAdvance
  rw [cmd]
  dsimp only
  rw [phase]

end

/-- Settles O56: the try that differs, and the write that is handed on. -/
theorem journalTriesEnd : Obligations.JournalTriesEnd := by
  rintro w v j s powered write tries rfl
  have run := exec_journalTryEnd (v := v) powered write tries
  refine ⟨fun differs => ?_, fun same waits => ?_, fun same free => ⟨fun n x entry => ?header, fun n entry => ?ride,
    fun q lane entry => ?opens, fun q lane entry => ?closes, fun n ctx entry load => ?wafer,
    fun k b blk u entry value bound hblk hu => ?advance⟩⟩
  · rw [run, if_neg differs]
    rfl
  · rw [run, if_pos same, State.handOn_reset _ _ (by exact waits), exec_resetLine (by exact powered)]
    rfl
  all_goals
    have hands {e : JEntry} {t : State} (entry : w.entry = e) (hand : (s.withJs (s.js.ended w v)).handOn e v = t)
        (unreset : t.resetWaiting = false) :
        exec (.journalTryEnd v) s = .next (t.withJs (Journal.begun t.sa.mark t.js)) := by
      rw [run, if_pos same, entry, ← same, hand, State.writeEnded_runs unreset]
  case header => exact hands entry rfl free
  case ride => exact hands entry rfl free
  case opens =>
    have opened : (s.withJs (s.js.ended w v)).handOn (.lotState 1) v = (s.withJs (s.js.ended w v)).completeOpen := rfl
    exact hands entry (opened.trans (State.completeOpen_eq (s := s.withJs (s.js.ended w v)) lane)) free
  case closes =>
    have closed : (s.withJs (s.js.ended w v)).handOn (.lotState 2) v = (s.withJs (s.js.ended w v)).completeClose :=
      rfl
    exact hands entry (closed.trans (State.completeClose_eq (s := s.withJs (s.js.ended w v)) lane)) free
  case wafer =>
    have noted : (s.withJs (s.js.ended w v)).handOn (.wafer n) v =
        ((s.withJs (s.js.ended w v)).withLc { s.lc with
          lastWafer := n, load := some { ctx with journalDone := true } }).loadCheck := by
      have loading : (s.withJs (s.js.ended w v)).lc.load = some ctx := load
      rw [State.handOn, State.completeWafer, loading]
      rfl
    refine ⟨fun awaits => ?_, fun q ended lane => ?_⟩
    · exact hands entry (noted.trans (State.loadCheck_awaits rfl (.inr awaits))) free
    · exact hands entry (noted.trans (State.loadCheck_complete (ctx := { ctx with journalDone := true }) rfl rfl ended
        (q := q) lane free)) free
  case advance =>
    have index : v.toNat - 1 = b := by
      rw [same, value, wordOf, BitVec.toNat_ofNat, Nat.mod_eq_of_lt (by omega), Nat.add_sub_cancel]
    have placed : (s.withJs (s.js.ended w v)).placeBlock k b = u := by
      rw [State.placeBlock_eq, hu, hblk]
      rfl
    have taken : (s.withJs (s.js.ended w v)).handOn (.advance k) v =
        (s.withJs (s.js.ended w v)).completeAdvance k b := by
      rw [State.handOn, if_neg (by simp [free]), index]
    have unreset : u.resetWaiting = false := by
      rw [hu]
      exact free
    refine ⟨fun calm => ?_, fun q i x n cmd phase running draw => ?_⟩
    · refine (hands entry (taken.trans ((State.completeAdvance_placed (by exact calm)).trans placed)) unreset).trans ?_
      rw [hu]
      rfl
    · have sites : u.sites = s.sites := by rw [hu]
      have site : u.site k = s.site k := congrArg (Four.get · k) sites
      have port : u.port = s.port := by rw [hu]
      have now : u.now = s.now := by rw [hu]
      have fu : u.fu = s.fu := by rw [hu]
      have frame := State.draw_frame k u
      rw [draw] at frame
      have drt : x.drt = u.drt := (congrArg State.drt frame :)
      have waits : x.resetWaiting = u.resetWaiting := (congrArg State.resetWaiting frame :)
      have drawn := State.drawStep_drawn (i := i) (d := u.drt) (rest := u.port) (by rw [fu]; exact running)
        (by rw [site]; exact cmd) draw
      have whole : u.beside u.drt u.port = u := rfl
      rw [whole, site, sites, port, now, ← drt] at drawn
      have resumed : (s.withJs (s.js.ended w v)).completeAdvance k b = _ :=
        (State.completeAdvance_resumes (by exact cmd) phase).trans ((congrArg (State.drawStep k i) placed).trans drawn)
      exact hands entry (taken.trans resumed) (waits.trans unreset)

end Sys2Proof.Machine
end

section
/-!
PROOFS. A failed journal write and part STOP: O57.
-/

namespace Sys2Proof.Machine

/-! ### What part STOP keeps for a RESET line (R151, R186) -/

/-- `t` is `s` but for lanes, slots, burns, port and derivation unit, and a RESET line makes the same of both. -/
structure State.Stopped (s t : State) : Prop where
  frame : { t with chans := s.chans, sites := s.sites, port := s.port, du := s.du } = s
  channels : ∀ j, (t.chan j).lineReset = (s.chan j).lineReset
  sites : ∀ j, (t.site j).lineReset = (s.site j).lineReset

section

variable {k : Site} {s t u : State}

theorem State.Stopped.refl (s : State) : State.Stopped s s := ⟨rfl, fun _ => rfl, fun _ => rfl⟩

theorem State.Stopped.trans (s t u : State) (h : State.Stopped s t) (g : State.Stopped t u) : State.Stopped s u where
  frame := (congrArg (fun v : State => { v with
    chans := s.chans, sites := s.sites, port := s.port, du := s.du }) g.frame).trans h.frame
  channels j := (g.channels j).trans (h.channels j)
  sites j := (g.sites j).trans (h.sites j)

/-- Such states meet a RESET line alike. -/
theorem State.Stopped.lineReset (h : State.Stopped s t) : t.lineReset = s.lineReset := by
  have chans : t.chans.map Channel.lineReset = s.chans.map Channel.lineReset :=
    Four.ext_get fun j => by rw [Four.get_map, Four.get_map]; exact h.channels j
  have sites : t.sites.map SiteLink.lineReset = s.sites.map SiteLink.lineReset :=
    Four.ext_get fun j => by rw [Four.get_map, Four.get_map]; exact h.sites j
  have same : ({ t.lineReset with chans := s.chans.map Channel.lineReset, sites := s.sites.map SiteLink.lineReset } :
      State) = s.lineReset := congrArg State.lineReset h.frame
  rw [← same, ← chans, ← sites]
  rfl

theorem State.stopped_withPort (x : List PortEntry) (s : State) : State.Stopped s (s.withPort x) :=
  ⟨rfl, fun _ => rfl, fun _ => rfl⟩

theorem State.stopped_withDu (x : DerivUnit) (s : State) : State.Stopped s (s.withDu x) :=
  ⟨rfl, fun _ => rfl, fun _ => rfl⟩

theorem State.stopped_modChan {f : Channel → Channel} (same : (f (s.chan k)).lineReset = (s.chan k).lineReset) :
    State.Stopped s (s.modChan k f) := by
  refine ⟨rfl, fun j => ?_, fun _ => rfl⟩
  by_cases h : j = k
  · rw [h, State.modChan_chan, same]
  · rw [State.modChan_chan_ne _ _ h]

theorem State.stopped_modSite {f : SiteLink → SiteLink} (same : (f (s.site k)).enabled = (s.site k).enabled) :
    State.Stopped s (s.modSite k f) := by
  refine ⟨rfl, fun _ => rfl, fun j => ?_⟩
  by_cases h : j = k
  · rw [h, State.modSite_site, SiteLink.lineReset, same]
    rfl
  · rw [State.modSite_site_ne _ _ h]

theorem SiteLink.answerCmd_enabled (c : Word) (ws : List Word) (sl : SiteLink) :
    (sl.answerCmd c ws).enabled = sl.enabled := by
  unfold SiteLink.answerCmd
  split <;> rfl

theorem SiteLink.answerBurn_enabled (c : Word) (ws : List Word) (sl : SiteLink) :
    (sl.answerBurn c ws).enabled = sl.enabled := by
  unfold SiteLink.answerBurn
  split <;> rfl

theorem State.stopped_answerBurn (c : Word) (ws : List Word) (s : State) : State.Stopped s (s.answerBurn k c ws) :=
  State.stopped_modSite (SiteLink.answerBurn_enabled ..)

theorem Channel.afterBurn_lineReset (e : Option Ending) (halt : Bool) (c : Channel) :
    (Channel.afterBurn e halt c).lineReset = c.lineReset := by
  rw [Channel.afterBurn_eq]
  rfl

theorem Channel.setSlot_lineReset (l : SlotId) (x : Slot) (c : Channel) : (c.setSlot l x).lineReset = c.lineReset := by
  cases l <;> rfl

/-- A burn that ends PART STOPPED reports no fault (R124). -/
theorem State.leaveBurn_partStopped (p : Pos) (s : State) :
    s.leaveBurn k .partStopped false p = s.modChan k (Channel.afterBurn (some .partStopped) false) := rfl

theorem State.stopped_finishBurn : State.Stopped s (s.finishBurn k .partStopped false) := by
  unfold State.finishBurn
  split
  · exact .refl s
  · next l x _ =>
    split
    · rw [State.endWritten, State.leaveBurn_partStopped]
      refine .trans _ _ _ (.trans _ _ _ (.trans _ _ _ (State.stopped_withDu _ s) (State.stopped_withPort _ _))
        (State.stopped_modChan ?_)) (.trans _ _ _ (State.stopped_withPort _ _)
          (State.stopped_modChan (Channel.afterBurn_lineReset ..)))
      exact Channel.setSlot_lineReset l _ _
    · rw [State.endUnwritten, State.leaveBurn_partStopped]
      exact .trans _ _ _ (.trans _ _ _ (State.stopped_modChan (Channel.setSlot_lineReset l _ _))
        (State.stopped_modChan (Channel.afterBurn_lineReset ..))) (State.stopped_answerBurn ..)

theorem State.stopped_interruptBurn : State.Stopped s (s.interruptBurn k .partStopped) := by
  have fixed : State.Stopped s (s.fixEnding k .partStopped) := State.stopped_modChan rfl
  unfold State.interruptBurn
  dsimp only
  cases (s.chan k).state
  case waiting | qualifying | adoptWait => exact State.stopped_finishBurn
  case checking =>
    dsimp only
    split
    · exact State.stopped_finishBurn
    · exact fixed
  case verifying => exact fixed
  case programming | locking =>
    dsimp only
    split
    · exact fixed
    · exact State.stopped_finishBurn
  all_goals exact .refl s

theorem State.stopped_stopDraw (k : Site) (s : State) : State.Stopped s (s.stopDraw k) := by
  unfold State.stopDraw
  split
  · exact .refl s
  · split
    · exact .trans _ _ _ (State.stopped_modSite (SiteLink.answerCmd_enabled ..)) (State.stopped_withPort _ _)
    all_goals exact .refl s

theorem State.stopped_stopBurn (k : Site) (s : State) : State.Stopped s (s.stopBurn k) := by
  have dropped : State.Stopped s (s.modChan k fun c => { c with calDeferred := false }) := State.stopped_modChan rfl
  unfold State.stopBurn
  dsimp only
  split
  · exact dropped
  · split
    · exact .trans _ _ _ dropped (State.stopped_answerBurn ..)
    · exact .trans _ _ _ dropped State.stopped_interruptBurn

end

/-! ### The beginning of part STOP -/

/-- Part STOP in fault unit, journal store, allocator and derivation unit (R186). -/
def State.stopBegun (s : State) : State :=
  { s with
    fu := { s.fu with partStopped := true }
    js := s.js.halt
    sa := s.sa.halt
    du := s.du.withdraw DEntry.isFingerprint }

/-- The waiting draws, after lot and wafer have been dealt with. -/
def State.drawsStopped (s : State) : State := allSites.foldl (fun s k => s.stopDraw k) s.stopBegun.stopLot

theorem State.partStop_eq (s : State) : s.partStop = allSites.foldl (fun s k => s.stopBurn k) s.drawsStopped := rfl

section

variable {q : SupReqState} {s : State}

theorem State.stopLot_opening (state : s.lc.lotState = .opening) : s.stopLot =
    (s.withLc { s.lc with secret := none, lotState := s.lc.before }).supAnswer 18 [] := by
  rw [State.stopLot, state]
  rfl

theorem State.stopLot_progress (state : s.lc.lotState = .resuming ∨ s.lc.lotState = .closing) : s.stopLot =
    (s.withLc { s.lc with secret := none, lotState := .suspended }).supAnswer 18 [] := by
  rcases state with state | state <;> (rw [State.stopLot, state]; rfl)

theorem State.stopLot_rest (state : s.lc.lotState ∉ [LotState.opening, .resuming, .closing]) : s.stopLot =
    if s.lc.wafer = .loading then (s.withLc { s.lc with wafer := .none, load := none }).supAnswer 18 [] else s := by
  rw [State.stopLot]
  cases h : s.lc.lotState
  case opening | resuming | closing => exact absurd (by rw [h]; decide) state
  all_goals rfl

/-- Part STOP changes lot controller and supervisor link alone of what `stopLot` meets. -/
theorem State.stopLot_frame (s : State) : { s.stopLot with lc := s.lc, sup := s.sup } = s := by
  unfold State.stopLot
  cases s.lc.lotState
  case empty | isOpen | suspended | closed =>
    dsimp only
    split <;> rfl
  all_goals rfl

/-- The request in progress is answered PART STOPPED (R6, R8, R11, R15). -/
theorem State.stopLot_answers (lane : s.sup.lane = some q)
    (busy : s.lc.lotState ∈ [LotState.opening, .resuming, .closing] ∨ s.lc.wafer = .loading) :
    s.stopLot.sup = { lane := none, io := { s.sup.io with
      replies := s.sup.io.replies ++ [⟨q.kind, q.tag, [18]⟩] } } := by
  have answered (lc : LotController) : ((s.withLc lc).supAnswer 18 []).sup = { lane := none, io := { s.sup.io with
      replies := s.sup.io.replies ++ [⟨q.kind, q.tag, [18]⟩] } } := by
    rw [State.supAnswer_held (q := q) (by exact lane)]
    rfl
  by_cases progress : s.lc.lotState ∈ [LotState.opening, .resuming, .closing]
  · simp only [List.mem_cons, List.not_mem_nil, or_false] at progress
    rcases progress with state | state
    · rw [State.stopLot_opening state, answered]
    · rw [State.stopLot_progress state, answered]
  · rw [State.stopLot_rest progress, if_pos (busy.resolve_left progress), answered]

/-- A RESET line makes the same of a lot that part STOP has dealt with. -/
theorem State.stopLot_lineReset (s : State) : s.stopLot.lineReset = s.lineReset := by
  by_cases progress : s.lc.lotState ∈ [LotState.opening, .resuming, .closing]
  · simp only [List.mem_cons, List.not_mem_nil, or_false] at progress
    rcases progress with state | state
    · rw [State.stopLot_opening state]
      rfl
    · rw [State.stopLot_progress state]
      rfl
  · rw [State.stopLot_rest progress]
    split
    · next loading =>
      have wafer : WaferState.none.lineReset = s.lc.wafer.lineReset := by
        rw [loading]
        rfl
      have same : ((s.withLc { s.lc with wafer := .none, load := none }).supAnswer 18 []).lineReset =
          { s.lineReset with lc :=
            (s.js.startLc WaferState.none.lineReset s.lc.waferNumber s.lc.cols s.lc.rows) } := rfl
      rw [same, wafer]
      rfl
    · rfl

theorem State.stopped_drawsStopped (s : State) : State.Stopped s.stopBegun.stopLot s.drawsStopped :=
  State.foldl_keeps (f := fun k s => s.stopDraw k) State.Stopped.refl State.Stopped.trans State.stopped_stopDraw _ _

theorem State.stopped_partStop (s : State) : State.Stopped s.stopBegun.stopLot s.partStop :=
  .trans _ _ _ (State.stopped_drawsStopped s)
    (State.foldl_keeps (f := fun k s => s.stopBurn k) State.Stopped.refl State.Stopped.trans State.stopped_stopBurn _ _)

/-- A RESET line right after part STOP (R151, R186). -/
theorem State.partStop_lineReset (s : State) : s.partStop.lineReset = s.lineReset := by
  rw [(State.stopped_partStop s).lineReset, State.stopLot_lineReset]
  rfl

end

/-! ### The failed write (R147) -/

/-- The state in which a failed write takes part STOP: its word at 65535, fault 71 reported. -/
def State.failed (w : JWrite) (s : State) : State :=
  { s with
    js := { s.js with words := s.js.words.setIfInBounds w.entry.word 65535, write := none }
    fu := s.fu.take ⟨71, w.entry.site, none, w.entry.requestKind, s.lc.clock⟩ }

theorem exec_journalWriteFail {w : JWrite} {s : State} (powered : s.powered = true) (write : s.js.write = some w)
    (failing : w.phase = .finalErase) : exec .journalWriteFail s = .next
      (if (s.failed w).partStop.resetWaiting then (s.failed w).partStop.lineReset else (s.failed w).partStop) := by
  refine congrArg _ ((State.live_powered powered _).trans ?_)
  rw [State.writeFailed, write]
  exact if_pos failing

theorem State.partStop_resetWaiting (s : State) : s.partStop.resetWaiting = s.resetWaiting := by
  have stopped := (congrArg State.resetWaiting (State.stopped_partStop s).frame :)
  exact stopped.trans (congrArg State.resetWaiting (State.stopLot_frame s.stopBegun) :)

/-! ### A site's draw and burn under part STOP -/

/-- The replies that `sl'` has beyond those of `sl`. -/
def SiteLink.newReplies (sl sl' : SiteLink) : List Message := sl'.io.replies.drop sl.io.replies.length

/-- `sl'` is `sl` with requests answered, and no ABORT waiting. -/
structure SiteLink.Answered (sl sl' : SiteLink) : Prop where
  io : sl'.io = { sl.io with replies := sl.io.replies ++ sl.newReplies sl' }
  enabled : sl'.enabled = sl.enabled
  aborts : sl'.aborts = []

theorem SiteLink.newReplies_eq {sl sl' : SiteLink} {ms : List Message} (io : sl'.io.replies = sl.io.replies ++ ms) :
    sl.newReplies sl' = ms := by
  rw [SiteLink.newReplies, io, List.drop_left]

theorem SiteLink.newReplies_self (sl : SiteLink) : sl.newReplies sl = [] := List.drop_length

theorem SiteLink.Answered.refl {sl : SiteLink} (alone : sl.aborts = []) : sl.Answered sl :=
  ⟨by rw [SiteLink.newReplies_self, List.append_nil], rfl, alone⟩

theorem SiteLink.Answered.of {sl sl' : SiteLink} {ms : List Message}
    (io : sl'.io = { sl.io with replies := sl.io.replies ++ ms }) (enabled : sl'.enabled = sl.enabled)
    (aborts : sl'.aborts = []) : sl.Answered sl' := by
  refine ⟨?_, enabled, aborts⟩
  rw [SiteLink.newReplies_eq (congrArg LinkIo.replies io), io]

section

variable {k : Site} {q : PrepReq} {b : BurnReq} {l : SlotId} {x : Taking} {s : State}

/-- A draw that waits is withdrawn and its PREPARE answered PART STOPPED (R32, R52). -/
theorem State.stopDraw_waits {i : Nat} (cmd : (s.site k).cmd = some q) (phase : q.phase = .waitBlock i) :
    s.stopDraw k = s.endClaimed k i .partStopped := by
  rw [State.stopDraw, cmd]
  dsimp only
  rw [phase]

theorem State.stopDraw_stays (calm : ∀ q i, (s.site k).cmd = some q → q.phase ≠ .waitBlock i) : s.stopDraw k = s := by
  unfold State.stopDraw
  cases cmd : (s.site k).cmd with
  | none => rfl
  | some q =>
    dsimp only
    split
    · next i phase => exact absurd phase (calm q i cmd)
    all_goals rfl

theorem State.reaches_stopDraw (k : Site) (s : State) : State.ReachesOnly k s (s.stopDraw k) := by
  unfold State.stopDraw
  split
  · exact .refl k s
  · split
    · exact (State.reaches_modSite _ s).trans (State.reaches_withPort ..)
    all_goals exact .refl k s

/-- What part STOP makes of a site's command lane. -/
theorem State.stopDraw_link (alone : (s.site k).aborts = []) :
    (s.site k).Answered ((s.stopDraw k).site k) ∧ ((s.stopDraw k).site k).burn = (s.site k).burn ∧
    (s.stopDraw k).chan k = s.chan k ∧
    ((∀ q i, (s.site k).cmd = some q → q.phase ≠ .waitBlock i) →
      ((s.stopDraw k).site k).cmd = (s.site k).cmd ∧ (s.site k).newReplies ((s.stopDraw k).site k) = []) ∧
    (∀ q i, (s.site k).cmd = some q → q.phase = .waitBlock i →
      ((s.stopDraw k).site k).cmd = none ∧
      (s.site k).newReplies ((s.stopDraw k).site k) = [⟨0x01, q.tag, [18]⟩] ∧
      { access := .clearing i, site := k, moment := s.now } ∈ (s.stopDraw k).port) := by
  by_cases waiting : ∃ q i, (s.site k).cmd = some q ∧ q.phase = .waitBlock i
  · obtain ⟨q, i, cmd, phase⟩ := waiting
    have link : (s.stopDraw k).site k = { s.site k with cmd := none, io := { (s.site k).io with
        replies := (s.site k).io.replies ++ [⟨0x01, q.tag, [18]⟩] } } := by
      rw [State.stopDraw_waits cmd phase, State.endClaimed_eq, State.site_withSites, Four.get_set_same]
      exact SiteLink.answerCmd_alone cmd alone ..
    rw [link]
    refine ⟨.of rfl rfl alone, rfl, ?_, fun calm => absurd phase (calm q i cmd), fun q' i' cmd' phase' => ?_⟩
    · rw [State.stopDraw_waits cmd phase]
      rfl
    · cases cmd.symm.trans cmd'
      cases phase.symm.trans phase'
      refine ⟨rfl, SiteLink.newReplies_eq rfl, ?_⟩
      rw [State.stopDraw_waits cmd phase]
      exact List.mem_append_right _ (List.mem_singleton_self _)
  · have calm : ∀ q i, (s.site k).cmd = some q → q.phase ≠ .waitBlock i :=
      fun q i cmd phase => waiting ⟨q, i, cmd, phase⟩
    rw [State.stopDraw_stays calm]
    exact ⟨.refl alone, rfl, rfl, fun _ => ⟨rfl, SiteLink.newReplies_self _⟩,
      fun q i cmd phase => absurd phase (calm q i cmd)⟩

/-- The state in which part STOP meets a burn: the deferred calibration is dropped (R103). -/
def State.undeferred (k : Site) (s : State) : State :=
  s.withChans (s.chans.set k { s.chan k with calDeferred := false })

theorem State.undeferred_chan : (s.undeferred k).chan k = { s.chan k with calDeferred := false } :=
  State.withChans_chan ..

theorem State.stopBurn_none (burn : (s.site k).burn = none) : s.stopBurn k = s.undeferred k := by
  rw [State.stopBurn, burn]
  rfl

theorem State.stopBurn_waitsCal (burn : (s.site k).burn = some b) (waits : b.waitsCal = true) :
    s.stopBurn k = (s.undeferred k).answerBurn k 18 [] := by
  rw [State.stopBurn, burn]
  exact if_pos waits

theorem State.stopBurn_burns (burn : (s.site k).burn = some b) (goes : b.waitsCal = false) :
    s.stopBurn k = (s.undeferred k).interruptBurn k .partStopped := by
  rw [State.stopBurn, burn]
  exact if_neg (by simp [goes])

theorem State.reaches_stopBurn (k : Site) (s : State) : State.ReachesOnly k s (s.stopBurn k) := by
  have dropped : State.ReachesOnly k s (s.modChan k fun c => { c with calDeferred := false }) :=
    State.reaches_modChan _ s
  unfold State.stopBurn
  dsimp only
  split
  · exact dropped
  · split
    · exact dropped.trans (State.reaches_modSite ..)
    · exact dropped.trans (State.reaches_interruptBurn ..)

theorem State.keepsEntries_stopDraw (k : Site) (s : State) : State.KeepsEntries s (s.stopDraw k) := by
  unfold State.stopDraw
  split
  · exact .refl s
  · split
    · exact fun e mem _ => List.mem_append_left _ mem
    all_goals exact .refl s

theorem State.keepsEntries_stopBurn (k : Site) (s : State) : State.KeepsEntries s (s.stopBurn k) := by
  unfold State.stopBurn
  dsimp only
  split
  · exact .refl s
  · split
    · exact .refl s
    · exact State.keepsEntries_interruptBurn (s := s.modChan k fun c => { c with calDeferred := false })

/-- An interruption answers a BURN at most. -/
theorem State.interruptBurn_site (k : Site) (e : Ending) (s : State) :
    (s.interruptBurn k e).site k = s.site k ∨ ∃ ws, (s.interruptBurn k e).site k = (s.site k).answerBurn e.word ws := by
  have finished : (s.finishBurn k e false).site k = s.site k ∨
      ∃ ws, (s.finishBurn k e false).site k = (s.site k).answerBurn e.word ws := by
    unfold State.finishBurn
    split
    · exact .inl rfl
    · split
      · left
        rw [State.endWritten, State.leaveBurn, State.reportEnding_eq]
        rfl
      · right
        rw [State.endUnwritten, State.leaveBurn, State.reportEnding_eq]
        exact ⟨_, State.modSite_site ..⟩
  unfold State.interruptBurn
  dsimp only
  cases (s.chan k).state
  case waiting | qualifying | adoptWait => exact finished
  case checking =>
    dsimp only
    split
    · exact finished
    · exact .inl rfl
  case programming | locking =>
    dsimp only
    split
    · exact .inl rfl
    · exact finished
  all_goals exact .inl rfl

/-- What part STOP makes of a site's burn lane, but for its channel. -/
theorem State.stopBurn_link (alone : (s.site k).aborts = []) :
    (s.site k).Answered ((s.stopBurn k).site k) ∧ ((s.stopBurn k).site k).cmd = (s.site k).cmd := by
  have answers (c : Word) (ws : List Word) : (s.site k).Answered ((s.site k).answerBurn c ws) ∧
      ((s.site k).answerBurn c ws).cmd = (s.site k).cmd := by
    cases burn : (s.site k).burn with
    | none =>
      have same : (s.site k).answerBurn c ws = s.site k := by rw [SiteLink.answerBurn, burn]
      rw [same]
      exact ⟨.refl alone, rfl⟩
    | some b =>
      rw [SiteLink.answerBurn_alone burn alone]
      exact ⟨.of rfl rfl alone, rfl⟩
  cases burn : (s.site k).burn with
  | none =>
    rw [State.stopBurn_none burn]
    exact ⟨.refl alone, rfl⟩
  | some b =>
    cases waits : b.waitsCal with
    | true =>
      rw [State.stopBurn_waitsCal burn waits, State.answerBurn, State.modSite_site]
      exact answers ..
    | false =>
      rw [State.stopBurn_burns burn waits]
      rcases State.interruptBurn_site k .partStopped (s.undeferred k) with same | ⟨ws, answered⟩
      · rw [same]
        exact ⟨.refl alone, rfl⟩
      · rw [answered]
        exact answers ..

/-- What part STOP makes of a burn, by how far it has come (R124). -/
theorem State.stopBurn_ends (alone : (s.site k).aborts = []) (burn : (s.site k).burn = some b)
    (goes : b.waitsCal = false) (burning : (s.chan k).burning = some l) (taking : ((s.chan k).slot l).taking = some x) :
    (∀ r, (s.chan k).state = .waiting ∨ (s.chan k).state = .qualifying → s.drt.records[x.idx]? = some r →
      Channel.LeftBy l .partStopped { s.chan k with calDeferred := false } ((s.stopBurn k).chan k) ∧
      ((s.stopBurn k).site k).burn = none ∧
      (s.site k).newReplies ((s.stopBurn k).site k) =
        [⟨0x03, b.tag, [18, posWord x.pos, wordOf x.idx, hiWord x.serial, loWord x.serial, 0,
          wordOf (classCode (s.chan k).cls), wordOf (s.chan k).attPulses, wordOf (s.chan k).attBits,
          wordOf r.attempts, 0]⟩]) ∧
    ((s.chan k).endsAtOnce = true →
      Channel.EndedBy l x .partStopped false { s.chan k with calDeferred := false } ((s.stopBurn k).chan k) ∧
      ((s.stopBurn k).site k).burn = some b ∧ (s.site k).newReplies ((s.stopBurn k).site k) = [] ∧
      { access := .ending, site := k, moment := s.now } ∈ (s.stopBurn k).port) ∧
    ((s.chan k).runsOut = true →
      (s.stopBurn k).chan k = { s.chan k with
        calDeferred := false, ending := some ((s.chan k).ending.getD .partStopped) } ∧
      ((s.stopBurn k).site k).burn = some b ∧ (s.site k).newReplies ((s.stopBurn k).site k) = []) := by
  have chan := State.undeferred_chan (k := k) (s := s)
  have slot : (({ s.chan k with calDeferred := false } : Channel).slot l) = (s.chan k).slot l := by cases l <;> rfl
  rw [State.stopBurn_burns burn goes]
  refine ⟨fun r state record => ?_, fun ends => ?_, fun runs => ?_⟩
  · have before : ((s.undeferred k).chan k).state.past = false := by
      rw [chan]
      rcases state with h | h <;> exact (congrArg ChanState.past h).trans rfl
    have left := State.finishBurn_unwritten (k := k) (l := l) (x := x) (e := .partStopped) (r := r)
      (s := s.undeferred k) (by rw [chan]; exact burning) (by rw [chan, slot]; exact taking) before record (by decide)
    rw [State.interruptBurn_before (by rw [chan]; exact state), left, State.answerBurn_eq, chan]
    have link := SiteLink.answerBurn_alone burn alone
    refine ⟨?_, ?_, ?_⟩
    · rw [State.chan_withSites, State.chan_withFu, State.withChans_chan]
      exact Channel.leftBy_unburned ..
    · rw [State.site_withSites, Four.get_set_same]
      exact congrArg SiteLink.burn (link ..)
    · rw [State.site_withSites, Four.get_set_same]
      exact SiteLink.newReplies_eq (congrArg (fun sl : SiteLink => sl.io.replies) (link ..))
  · obtain ⟨ended, ⟨port, -⟩, -, -, frame⟩ := State.finishBurn_past (k := k) (l := l) (x := x) (s := s.undeferred k)
      .partStopped false (by rw [chan]; exact burning) (by rw [chan, slot]; exact taking)
      (by rw [chan]; exact Channel.past_of_endsAtOnce (c := s.chan k) ends)
    rw [chan] at ended
    rw [State.interruptBurn_endsAtOnce (by rw [chan]; exact ends)]
    have site : ((s.undeferred k).finishBurn k .partStopped false).site k = s.site k :=
      (congrArg (fun v : State => v.site k) frame :)
    refine ⟨ended, ?_, ?_, ?_⟩
    · rw [site]
      exact burn
    · rw [site]
      exact SiteLink.newReplies_self _
    · rw [port]
      exact List.mem_append_right _ (List.mem_singleton_self _)
  · rw [State.interruptBurn_runsOut (by rw [chan]; exact runs), State.fixEnding_eq, State.withChans_chan, chan]
    exact ⟨rfl, burn, SiteLink.newReplies_self _⟩

end

/-! ### All four sites under part STOP -/

section

variable {k : Site} {s : State}

/-- The waiting draws withdrawn, as all four sites leave them. -/
theorem State.drawsStopped_link (alone : (s.site k).aborts = []) :
    (s.site k).Answered (s.drawsStopped.site k) ∧ (s.drawsStopped.site k).burn = (s.site k).burn ∧
    s.drawsStopped.chan k = s.chan k ∧
    ((∀ q i, (s.site k).cmd = some q → q.phase ≠ .waitBlock i) →
      (s.drawsStopped.site k).cmd = (s.site k).cmd ∧ (s.site k).newReplies (s.drawsStopped.site k) = []) ∧
    (∀ q i, (s.site k).cmd = some q → q.phase = .waitBlock i →
      (s.drawsStopped.site k).cmd = none ∧ (s.site k).newReplies (s.drawsStopped.site k) = [⟨0x01, q.tag, [18]⟩] ∧
      { access := .clearing i, site := k, moment := s.now } ∈ s.drawsStopped.port) := by
  have lot := State.stopLot_frame s.stopBegun
  have site0 : s.stopBegun.stopLot.site k = s.site k := (congrArg (fun v : State => v.site k) lot :)
  have chan0 : s.stopBegun.stopLot.chan k = s.chan k := (congrArg (fun v : State => v.chan k) lot :)
  have now0 : s.stopBegun.stopLot.now = s.now := (congrArg State.now lot :)
  obtain ⟨a, b, u, -, whole, -, -, site, chan, site', chan', frame⟩ :=
    State.foldl_at (f := fun k s => s.stopDraw k) State.reaches_stopDraw k s.stopBegun.stopLot
  have now : u.now = s.now := (congrArg State.now frame :).trans now0
  rw [site0] at site
  obtain ⟨link, burn, channel, calm, waits⟩ := State.stopDraw_link (k := k) (s := u) (by rw [site]; exact alone)
  rw [site] at link burn calm waits
  rw [now] at waits
  have linked : s.drawsStopped.site k = (u.stopDraw k).site k := site'
  have port : ∀ e ∈ (u.stopDraw k).port, e.access ≠ .serialLookup → e ∈ s.drawsStopped.port := by
    have kept := State.foldl_keeps (f := fun k s => s.stopDraw k) State.KeepsEntries.refl State.KeepsEntries.trans
      State.keepsEntries_stopDraw b (u.stopDraw k)
    rw [State.drawsStopped, whole]
    exact kept
  rw [linked]
  refine ⟨link, burn, chan'.trans (channel.trans (chan.trans chan0)), calm, fun q i cmd phase => ?_⟩
  obtain ⟨freed, reply, entry⟩ := waits q i cmd phase
  exact ⟨freed, reply, port _ entry fun h => Access.noConfusion h⟩

/-- The stop of site `k`'s burn meets it as the draws left it, and leaves it as part STOP leaves it. -/
theorem State.partStop_at (k : Site) (s : State) : ∃ u : State, u.site k = s.drawsStopped.site k ∧
    u.chan k = s.drawsStopped.chan k ∧ u.now = s.now ∧ u.drt = s.drt ∧
    s.partStop.site k = (u.stopBurn k).site k ∧ s.partStop.chan k = (u.stopBurn k).chan k ∧
    State.KeepsEntries (u.stopBurn k) s.partStop := by
  obtain ⟨a, b, u, -, whole, -, -, site, chan, site', chan', frame⟩ :=
    State.foldl_at (f := fun k s => s.stopBurn k) State.reaches_stopBurn k s.drawsStopped
  have lot := State.stopLot_frame s.stopBegun
  have draws := (State.stopped_drawsStopped s).frame
  refine ⟨u, site, chan, ?_, ?_, site', chan', ?_⟩
  · exact (congrArg State.now frame :).trans ((congrArg State.now draws :).trans (congrArg State.now lot :))
  · exact (congrArg State.drt frame :).trans ((congrArg State.drt draws :).trans (congrArg State.drt lot :))
  · rw [State.partStop_eq, whole]
    exact State.foldl_keeps (f := fun k s => s.stopBurn k) State.KeepsEntries.refl State.KeepsEntries.trans
      State.keepsEntries_stopBurn b _

theorem State.keepsEntries_partStop (s : State) : State.KeepsEntries s.drawsStopped s.partStop :=
  State.foldl_keeps (f := fun k s => s.stopBurn k) State.KeepsEntries.refl State.KeepsEntries.trans
    State.keepsEntries_stopBurn _ _

/-- With no burn lane in use, part STOP withdraws the fingerprint derivation alone (R186). -/
theorem State.partStop_du (free : ∀ k, (s.site k).burn = none) (alone : ∀ k, (s.site k).aborts = []) :
    s.partStop.du = s.du.withdraw DEntry.isFingerprint := by
  have draws : s.drawsStopped.du = s.stopBegun.stopLot.du :=
    State.foldl_keeps (f := fun k s => s.stopDraw k) (R := fun s t => t.du = s.du) (fun _ => rfl)
      (fun _ _ _ h g => g.trans h) (fun k s => by
        unfold State.stopDraw
        split
        · rfl
        · split <;> rfl) _ _
  have burns := State.foldl_keeps (f := fun k s => s.stopBurn k)
    (R := fun s t => (∀ k, (s.site k).burn = none) → t.du = s.du ∧ ∀ k, (t.site k).burn = none)
    (fun _ h => ⟨rfl, h⟩)
    (fun _ _ _ h g free => ⟨(g (h free).2).1.trans (h free).1, (g (h free).2).2⟩)
    (fun k s free => by
      rw [State.stopBurn_none (free k)]
      exact ⟨rfl, free⟩) allSites s.drawsStopped
  have lot := State.stopLot_frame s.stopBegun
  rw [State.partStop_eq]
  refine (burns fun k => ?_).1.trans (draws.trans (congrArg State.du lot :))
  obtain ⟨-, burn, -⟩ := State.drawsStopped_link (alone k)
  rw [burn, free]

end

theorem SiteBlocks.unpended_eq (b : SiteBlocks) :
    b.unpended.current = b.current ∧ b.unpended.next = if b.next = .pending then .absent else b.next := by
  unfold SiteBlocks.unpended
  cases next : b.next <;> simp [next]

/-- Settles O57: the reset that waits, and part STOP block by block and site by site. -/
theorem failedWriteStopsThePart : Obligations.FailedWriteStopsThePart := by
  refine ⟨fun w s powered write failing waits => ?reset, fun w s powered write failing real free alone => ?stop⟩
  case reset =>
    have begun : (s.failed w).partStop.resetWaiting = true := (State.partStop_resetWaiting _).trans waits
    rw [exec_journalWriteFail powered write failing, begun, State.partStop_lineReset, exec_resetLine (by exact powered)]
    rfl
  case stop =>
    have unreset : (s.failed w).partStop.resetWaiting = false := (State.partStop_resetWaiting _).trans free
    have run : exec .journalWriteFail s = .next (s.failed w).partStop := by
      rw [exec_journalWriteFail powered write failing, unreset]
      rfl
    have stopped := (State.stopped_partStop (s.failed w)).frame
    have lot := State.stopLot_frame (s.failed w).stopBegun
    have js : (s.failed w).partStop.js = (s.failed w).js.halt :=
      (congrArg State.js stopped :).trans (congrArg State.js lot :)
    have sa : (s.failed w).partStop.sa = s.sa.halt := (congrArg State.sa stopped :).trans (congrArg State.sa lot :)
    have lc : (s.failed w).partStop.lc = (s.failed w).stopBegun.stopLot.lc := (congrArg State.lc stopped :)
    have sup : (s.failed w).partStop.sup = (s.failed w).stopBegun.stopLot.sup := (congrArg State.sup stopped :)
    have word (n : Nat) : (s.failed w).partStop.js.word n = (s.js.setWord w.entry.word 65535).word n := by
      rw [js]
      rfl
    refine ⟨_, run, ?word, fun n other => ?others, ?write, ?queue, ?halted, ?held, ?rides, ?faults, ?mark, ?outstanding,
      ?drawn, ?exhausted, fun k => ?blocks, ?table, ?watches, ?profile, fun state => ?opening, fun state => ?progress,
      fun state loading => ?loading, fun q lane busy => ?answered, fun calm wafer => ?calm, fun none => ?derivations,
      fun k => ?site⟩
    case word => rw [word, Journal.word_setWord, if_pos ⟨rfl, real⟩]
    case others => rw [word, Journal.word_setWord, if_neg fun h => other h.1]
    case write | queue | halted | held | rides => rw [js]; rfl
    case faults => exact (congrArg State.fu stopped :).trans (congrArg State.fu lot :)
    case mark | outstanding | drawn | exhausted => rw [sa]; rfl
    case blocks =>
      have blocks : s.sa.halt.blocks.get k = (s.sa.blocks.get k).unpended := Four.get_map ..
      rw [sa, blocks]
      exact SiteBlocks.unpended_eq _
    case table => exact (congrArg State.drt stopped :).trans (congrArg State.drt lot :)
    case watches => exact (congrArg State.wt stopped :).trans (congrArg State.wt lot :)
    case profile => exact (congrArg State.ps stopped :).trans (congrArg State.ps lot :)
    case opening =>
      rw [lc, State.stopLot_opening (by exact state)]
      rfl
    case progress =>
      rw [lc, State.stopLot_progress (by exact state)]
      rfl
    case loading =>
      have rest : (s.failed w).stopBegun.lc.lotState ∉ [LotState.opening, .resuming, .closing] := by
        have here : (s.failed w).stopBegun.lc.lotState = s.lc.lotState := rfl
        rw [here]
        revert state
        cases s.lc.lotState <;> decide
      rw [lc, State.stopLot_rest rest, if_pos (by exact loading)]
      rfl
    case answered =>
      rw [sup, State.stopLot_answers (q := q) (by exact lane) (by exact busy)]
      rfl
    case calm =>
      have same : (s.failed w).stopBegun.stopLot = (s.failed w).stopBegun :=
        (State.stopLot_rest (by exact calm)).trans (if_neg (by exact wafer))
      rw [lc, sup, same]
      exact ⟨rfl, rfl⟩
    case derivations => exact State.partStop_du (s := s.failed w) none alone
    case site =>
      obtain ⟨drawn, burn, channel, calm, waits⟩ := State.drawsStopped_link (s := s.failed w) (alone k)
      obtain ⟨u, site, chan, now, drt, left, leftChan, kept⟩ := State.partStop_at k (s.failed w)
      rw [← site] at drawn burn calm waits
      have still : (u.site k).aborts = [] := drawn.aborts
      have there : u.chan k = s.chan k := chan.trans channel
      have lane : (u.site k).burn = (s.site k).burn := burn
      obtain ⟨burnt, cmd⟩ := State.stopBurn_link (k := k) (s := u) still
      rw [left, leftChan]
      refine ⟨(s.site k).newReplies (u.site k), (u.site k).newReplies ((u.stopBurn k).site k), ?_, ?_, burnt.aborts,
        fun stays => ?_, fun q i held phase => ?_, fun none => ?_, fun b burns => ⟨fun waits => ?_, fun l x goes burning
          taking => ?_⟩⟩
      · rw [burnt.io, drawn.io]
        rfl
      · exact burnt.enabled.trans drawn.enabled
      · obtain ⟨same, quiet⟩ := calm stays
        exact ⟨cmd.trans same, quiet⟩
      · obtain ⟨freed, reply, entry⟩ := waits q i held phase
        exact ⟨cmd.trans freed, reply, State.keepsEntries_partStop _ _ entry fun h => Access.noConfusion h⟩
      · have vacant : (u.site k).burn = .none := lane.trans none
        rw [State.stopBurn_none vacant, State.undeferred_chan, there]
        exact ⟨rfl, vacant, SiteLink.newReplies_self _⟩
      · have answered := SiteLink.answerBurn_alone (lane.trans burns) still 18 []
        rw [State.stopBurn_waitsCal (lane.trans burns) waits]
        refine ⟨?_, ?_, ?_⟩
        · exact State.undeferred_chan.trans (by rw [there])
        · exact (congrArg SiteLink.burn (State.modSite_site ..)).trans (congrArg SiteLink.burn answered)
        · refine SiteLink.newReplies_eq ?_
          exact (congrArg (fun sl : SiteLink => sl.io.replies) ((State.modSite_site ..).trans answered))
      · have ends := State.stopBurn_ends still (lane.trans burns) goes (by rw [there]; exact burning)
          (by rw [there]; exact taking)
        rw [there, now, drt] at ends
        obtain ⟨before, atOnce, runs⟩ := ends
        refine ⟨before, fun h => ?_, runs⟩
        obtain ⟨ended, held, quiet, entry⟩ := atOnce h
        exact ⟨ended, held, quiet, kept _ entry fun h => Access.noConfusion h⟩

end Sys2Proof.Machine
end
